-- ==== Sys2Proof/Word.lean ====
section
/-! DEFINITION. The word types of the Wharfline WH-3240 and nothing else: the widths the manual gives to what it
treats as bits (spec/00_scope.md, Conventions; spec/08, 8.1, the transaction's fields). -/

namespace Sys2Proof

/-- Eight bits of memory or link data. -/
abbrev Byte := BitVec 8

/-- A 16-bit sequence number, which wraps (spec/01, 1.6). -/
abbrev Seq := BitVec 16

/-- A 32-bit word: check codes, counters, Time Base counts. -/
abbrev Word := BitVec 32

/-- A 36-bit byte address (spec/08, 8.1). -/
abbrev Addr := BitVec 36

/-- An initiator number, 0..63 (spec/08, 8.1). -/
abbrev Initiator := BitVec 6

/-- A transaction's tag, 0..255 (spec/08, 8.1). -/
abbrev Tag := BitVec 8

/-- One of the eight rings, 0..7. -/
abbrev RingId := Fin 8

/-- One of a ring's four roster slots, 0..3. -/
abbrev SlotId := Fin 4

end Sys2Proof
end

