-- ==== Sys2Proof/Config.lean ====
section
/-! DEFINITION. What the part fixes in silicon: the sizes of its stores and the constants of its check code.
The manual leaves no value of an operation open, so there is no free value here (log entry 1). -/

namespace Sys2Proof.Config

/-- Berth records in the pool (spec/01, 1.3). -/
def poolSize : Nat := 2048

/-- Entries of the pass-through queue (R126). -/
def passThroughDepth : Nat := 32

/-- Entries of the in-flight list (R128). -/
def inFlightDepth : Nat := 16

/-- Places of the Hold Queue (R96). -/
def holdPlaces : Nat := 16

/-- Jobs of the verify queue (R110). -/
def verifyDepth : Nat := 8

/-- Verify reads the engine may have outstanding (R112). -/
def verifyOutstandingMax : Nat := 4

/-- Records the Report Engine's buffer holds (R162). -/
def recordBufferDepth : Nat := 8

/-- Profile reads of one load, 64 bytes each (R152). -/
def loadReads : Nat := 11

/-- The Time Base's divisor at device reset (R160). -/
def resetDivisor : Nat := 100

/-- The check code's generator polynomial 0x04C11DB7, bit-reversed, since input and result are reflected (R17). -/
def crcPoly : Word := 0xEDB88320

/-- The check code's initial value (R17). -/
def crcInit : Word := 0xFFFFFFFF

end Sys2Proof.Config
end

