-- ==== Sys2Proof/Syntax.lean ====
section
/-! DEFINITION. The commands the part takes from outside: one constructor of Instr per row of
spec/opcode_table.json. A row that is an upstream transaction carries the transaction as the link carries it
(spec/08, 8.1); a completion carries what memory answers; an expiry names what expires; a pin event carries the
level that matters. -/

namespace Sys2Proof

/-- An upstream READ as the link carries it (spec/08, 8.1). The length field is a plain number, since a value
outside 1..64 can stand on the link and is judged MALFORMED (R123). -/
structure ReadTx where
  initiator : Initiator
  tag : Tag
  address : Addr
  length : Nat
  deriving DecidableEq, Repr

/-- An upstream WRITE as the link carries it: the bytes are in address order from `address` (spec/08, 8.1). -/
structure WriteTx where
  initiator : Initiator
  tag : Tag
  address : Addr
  length : Nat
  data : List Byte
  deriving DecidableEq, Repr

/-- A transaction on the upstream link. -/
inductive Transaction where
  | read (r : ReadTx)
  | write (w : WriteTx)
  deriving DecidableEq, Repr

/-- What memory answers to a request: the data of a read (a full 64-byte beat of the memory link, of which a
read of n bytes uses the first n), or a fault (R130). -/
inductive MemResult where
  | okay (data : List Byte)
  | memfault
  deriving DecidableEq, Repr

/-- The commands of the part: one constructor per row of spec/opcode_table.json, in the table's order. -/
inductive Instr where
  /-- DEVICE_RESET: RESET_N goes low (R132). -/
  | deviceReset
  /-- RESET_RELEASE: RESET_N goes high; `ctlsel` is the level of the strap pins CTLSEL[3:0], sampled then (R145, R156). -/
  | resetRelease (ctlsel : BitVec 4)
  /-- WEN_FALL (R135). -/
  | wenFall
  /-- WEN_RISE (R135). -/
  | wenRise
  /-- TIME_BASE_TICK: one microsecond of the Time Base ends (R160). -/
  | timeBaseTick
  /-- START_WRITE: a producer write at offset 0 of a berth (R18). -/
  | startWrite (w : WriteTx)
  /-- CONTINUATION_WRITE: a producer write at a non-zero offset (R44). -/
  | continuationWrite (w : WriteTx)
  /-- FOREIGN_WRITE: a window write by an initiator that is no producer (R60). -/
  | foreignWrite (w : WriteTx)
  /-- CONSUMER_READ: a window read by an attached consumer (R90). -/
  | consumerRead (r : ReadTx)
  /-- UNCHECKED_READ: a read the roster does not judge (R89). -/
  | uncheckedRead (r : ReadTx)
  /-- PLAIN_WRITE: a write outside ring windows and control block (R134). -/
  | plainWrite (w : WriteTx)
  /-- CURSOR_WRITE: a write into the cursor area (R83). -/
  | cursorWrite (w : WriteTx)
  /-- TAIL_WORD_WRITE: a write into the report tail word (R167). -/
  | tailWordWrite (w : WriteTx)
  /-- CONTROL_BLOCK_WRITE: a write into the rest of the control block (R146). -/
  | controlBlockWrite (w : WriteTx)
  /-- RING_ENABLE: a write of the command word with opcode 1 (R4). -/
  | ringEnable (w : WriteTx)
  /-- RING_DISABLE: opcode 2 (R6). -/
  | ringDisable (w : WriteTx)
  /-- RING_RESET: opcode 3 (R6). -/
  | ringReset (w : WriteTx)
  /-- REFRAME: opcode 4 (R32). -/
  | reframe (w : WriteTx)
  /-- ATTACH: opcode 5 (R79). -/
  | attach (w : WriteTx)
  /-- DETACH: opcode 6 (R80). -/
  | detach (w : WriteTx)
  /-- SNAPSHOT: opcode 7 (R174). -/
  | snapshot (w : WriteTx)
  /-- RELOAD: opcode 8 (R159). -/
  | reload (w : WriteTx)
  /-- ARBITER_GRANT: the port arbiter grants one request (R129). -/
  | arbiterGrant
  /-- RELEASED_READ_ENTRY: the oldest released read takes a free pass-through entry (R100). -/
  | releasedReadEntry
  /-- PASS_THROUGH_COMPLETION: memory completes a passed read or an untracked write (R130). -/
  | passThroughCompletion (m : MemResult)
  /-- TRACKED_WRITE_COMPLETION: memory completes a tracked producer write (R51). -/
  | trackedWriteCompletion (fault : Bool)
  /-- VERIFY_READ_COMPLETION: memory completes a verify read (R113). -/
  | verifyReadCompletion (m : MemResult)
  /-- REPORT_WRITE_COMPLETION: memory completes a Report Engine write (R165). -/
  | reportWriteCompletion (fault : Bool)
  /-- LOADER_READ_COMPLETION: memory completes a profile read (R152). -/
  | loaderReadCompletion (m : MemResult)
  /-- LOADER_WRITE_COMPLETION: memory completes a loader write (R153). -/
  | loaderWriteCompletion (fault : Bool)
  /-- QUIET_TIMER_EXPIRY: the quiet timer of `ring` expires (R38). -/
  | quietTimerExpiry (ring : RingId)
  /-- HOLD_DEADLINE: the deadline of the hold entry with this initiator and tag is reached (R102). -/
  | holdDeadline (initiator : Initiator) (tag : Tag)
  /-- PERIOD_TIMER_EXPIRY: the snapshot period timer expires (R174). -/
  | periodTimerExpiry
  /-- UNKNOWN_COMMAND: a write of the command word with an opcode outside 1..8 (R158). -/
  | unknownCommand (w : WriteTx)
  deriving DecidableEq, Repr

end Sys2Proof
end

