-- ==== Sys2Proof/WellFormed.lean ====
section
/-! DEFINITION. Which terms of Instr stand for something the outside can do: a write carries as many bytes as its
length field says, a memory link beat is 64 bytes, and a write named after a word of the control block lies in that
word of some CTLSEL's block (spec/08, 8.1; spec/10, 10.1 and 10.5). What the rings, roles and profiles make of a
transaction is decided by the machine at its arrival, not here. -/

namespace Sys2Proof

/-- A write carries Length bytes (spec/08, 8.1). -/
def WriteTx.wellFormed (w : WriteTx) : Bool := w.data.length == w.length

/-- A completion of a read carries a full beat of the memory link (log entry 6). -/
def MemResult.wellFormed : MemResult → Bool
  | .okay data => data.length == 64
  | .memfault => true

/-- The address lies in the control block of some CTLSEL value: bits 31..12 are ones (R145). -/
def inSomeControlBlock (a : Addr) : Bool := a.extractLsb' 12 20 == 0xFFFFF#20

/-- The offset in the control block of an address that lies in one. -/
def controlOffset (a : Addr) : Nat := (a.extractLsb' 0 12).toNat

/-- A write that touches [lo, hi) of a control block. -/
def WriteTx.touchesControl (w : WriteTx) (lo hi : Nat) : Bool :=
  inSomeControlBlock w.address && controlOffset w.address < hi && lo < controlOffset w.address + w.length

/-- A write that covers byte 0 of the command word: with 64-byte blocks, it begins there (R158, R123). -/
def WriteTx.commandOpcode? (w : WriteTx) : Option Byte :=
  if inSomeControlBlock w.address && controlOffset w.address == 0x300 then w.data[0]? else none

/-- A write that carries the command with this opcode (R158). -/
def WriteTx.carriesOpcode (w : WriteTx) (op : Byte) : Bool :=
  w.wellFormed && w.commandOpcode? == some op

/-- The well-formed commands. -/
def Instr.wellFormed : Instr → Bool
  | .deviceReset => true
  | .resetRelease _ => true
  | .wenFall => true
  | .wenRise => true
  | .timeBaseTick => true
  | .startWrite w => w.wellFormed
  | .continuationWrite w => w.wellFormed
  | .foreignWrite w => w.wellFormed
  | .consumerRead _ => true
  | .uncheckedRead _ => true
  | .plainWrite w => w.wellFormed
  | .cursorWrite w => w.wellFormed && w.touchesControl 0x400 0x500
  | .tailWordWrite w => w.wellFormed && w.touchesControl 0x318 0x320
  | .controlBlockWrite w => w.wellFormed && inSomeControlBlock w.address
  | .ringEnable w => w.carriesOpcode 1
  | .ringDisable w => w.carriesOpcode 2
  | .ringReset w => w.carriesOpcode 3
  | .reframe w => w.carriesOpcode 4
  | .attach w => w.carriesOpcode 5
  | .detach w => w.carriesOpcode 6
  | .snapshot w => w.carriesOpcode 7
  | .reload w => w.carriesOpcode 8
  | .arbiterGrant => true
  | .releasedReadEntry => true
  | .passThroughCompletion m => m.wellFormed
  | .trackedWriteCompletion _ => true
  | .verifyReadCompletion m => m.wellFormed
  | .reportWriteCompletion _ => true
  | .loaderReadCompletion m => m.wellFormed
  | .loaderWriteCompletion _ => true
  | .quietTimerExpiry _ => true
  | .holdDeadline _ _ => true
  | .periodTimerExpiry => true
  | .unknownCommand w =>
    w.wellFormed && match w.commandOpcode? with
      | some op => op == 0 || 8 < op.toNat
      | none => false

/-- The transaction a command presents on the upstream link, if its row is one that the link carries. -/
def Instr.transaction? : Instr → Option Transaction
  | .deviceReset => none
  | .resetRelease _ => none
  | .wenFall => none
  | .wenRise => none
  | .timeBaseTick => none
  | .startWrite w => some (.write w)
  | .continuationWrite w => some (.write w)
  | .foreignWrite w => some (.write w)
  | .consumerRead r => some (.read r)
  | .uncheckedRead r => some (.read r)
  | .plainWrite w => some (.write w)
  | .cursorWrite w => some (.write w)
  | .tailWordWrite w => some (.write w)
  | .controlBlockWrite w => some (.write w)
  | .ringEnable w => some (.write w)
  | .ringDisable w => some (.write w)
  | .ringReset w => some (.write w)
  | .reframe w => some (.write w)
  | .attach w => some (.write w)
  | .detach w => some (.write w)
  | .snapshot w => some (.write w)
  | .reload w => some (.write w)
  | .arbiterGrant => none
  | .releasedReadEntry => none
  | .passThroughCompletion _ => none
  | .trackedWriteCompletion _ => none
  | .verifyReadCompletion _ => none
  | .reportWriteCompletion _ => none
  | .loaderReadCompletion _ => none
  | .loaderWriteCompletion _ => none
  | .quietTimerExpiry _ => none
  | .holdDeadline _ _ => none
  | .periodTimerExpiry => none
  | .unknownCommand w => some (.write w)

end Sys2Proof
end

