-- ==== Sys2Proof/Decode.lean ====
section
/-! DEFINITION. spec/opcode_table.json gives no row of this block any bits, so no word spells a command: the part
has no instruction decoder (log entry 2). The bytes that software does write to give a command, the command word of
R157, are read from the write itself in Machine/Commands.lean. -/

namespace Sys2Proof

/-- The command a word spells by the table's bits: the table gives none. -/
def decodeTableWord (_nbits _w : Nat) : Option Instr := none

end Sys2Proof
end

