-- ==== Sys2Proof/Machine/State.lean ====
section
/-! DEFINITION. The state of the part as plain data, block by block as spec/00_scope.md lists the blocks, and its
value at device reset. The queue `pending` of waiting commands is the model's, as the task gives it. -/

namespace Sys2Proof.Machine

open Sys2Proof Sys2Proof.Config

/-- What stops the machine with a fault: nothing does, so the type has no constructor (log entry 3). -/
inductive Fault where
  deriving DecidableEq, Repr

/-- Why a command has no meaning. -/
inductive Refusal where
  /-- Raised by an arm of exec whose command has no meaning yet; no arm is left so. Safe: the machine stops. -/
  | notModelled (mnemonic : String)
  deriving DecidableEq, Repr

/-! ## Report records -/

/-- The report kinds of R170. -/
inductive ReportKind where
  | loadDone | commandDone | commandRefused | snapshotDone | reportsDropped | lockAcquired | lockLost
  | alignmentChanged | sequenceBreak | slip | groupLocked | groupLost | groupFallback | berthDamaged
  | overrunRefused | berthReclaimed | claimConflict | foreignWrite | liveWriteRefused | faultHeld | holdExpired
  | holdQueueFull | verifySkipped | producerQuiet | producerCode | cursorRefused | cursorRegress | writeDisabled
  | protectRefused | memoryFault | tailInvalid
  deriving DecidableEq, Repr

/-- A report record's fields (R163); a field the raising rule does not name is 0. -/
structure Record where
  kind : ReportKind
  ring : Byte := 0xFF
  berth : BitVec 16 := 0
  seq : Seq := 0
  initiator : Byte := 0
  detail : Byte := 0
  time : Word := 0
  extra : Word := 0
  deriving DecidableEq, Repr

/-! ## Profiles -/

/-- The overrun policy of a ring (R55). -/
inductive OverrunPolicy where
  | block | reclaim
  deriving DecidableEq, Repr

/-- The lock rule of a ring (R24). -/
inductive LockRule where
  | leadOnly | leadOrSequence
  deriving DecidableEq, Repr

/-- The publish mode of a ring (R63). -/
inductive PublishMode where
  | berth | group
  deriving DecidableEq, Repr

/-- A ring's profile fields (spec/01, 1.1; R147). The berth size is 2 to `sizeExponent`. -/
structure RingProfile where
  windowBase : Addr
  sizeExponent : Nat
  berthCount : Nat
  sync : BitVec 16
  primary : Initiator
  alternate : Option Initiator
  consumers : Vector (Option Initiator) 4
  verify : Bool
  strict : Bool
  keepSearching : Bool
  abandonOnQuiet : Bool
  reframeOnExcess : Bool
  poisonDamaged : Bool
  overrun : OverrunPolicy
  confirmCount : Nat
  lockRule : LockRule
  groupSize : Nat
  publishMode : PublishMode
  holdLimit : BitVec 16
  quietLimit : BitVec 16
  verifyTries : Nat
  excessThreshold : Nat
  deriving DecidableEq, Repr

/-- A write-protect range in use (R137): `size` counts units of 4096 bytes. -/
structure ProtectRange where
  base : Addr
  size : Nat
  allowed : Option Initiator
  deriving DecidableEq, Repr

/-- The device profile in force, with the four write-protect entries; an entry not in use is absent (R137, R147). -/
structure DeviceProfile where
  divisor : Nat
  controlA : Initiator
  controlB : Option Initiator
  enableMask : BitVec 8
  interruptEnable : Bool
  reportBase : Addr
  reportEntries : Nat
  snapshotPeriod : Nat
  eventMask : Word
  ranges : Vector (Option ProtectRange) 4
  deriving DecidableEq, Repr

/-! ## Rings, roster and berths -/

/-- A ring's operating state (R1). -/
inductive OpState where
  | disabled | active | faultHeld
  deriving DecidableEq, Repr

/-- A ring's profile validity (R2). -/
inductive Validity where
  | none | valid | invalid
  deriving DecidableEq, Repr

/-- The alignment states of spec/02. -/
inductive AlignState where
  | hunt | confirm | locked
  deriving DecidableEq, Repr

/-- The group unit's states (R65). -/
inductive GroupState where
  | off | search | locked | ungrouped
  deriving DecidableEq, Repr

/-- A roster slot's states (R78). -/
inductive SlotState where
  | vacant | attached | detached
  deriving DecidableEq, Repr

/-- A roster slot (spec/05, 5.1). -/
structure Slot where
  state : SlotState
  initiator : Option Initiator
  cursor : Option Seq
  lapped : Bool
  deriving DecidableEq, Repr

/-- A ring's tracking fields (R3). `none` is the manual's "absent"; a stopped timer is `none`. -/
structure Tracking where
  align : AlignState
  errorCount : Nat
  confirmProgress : Nat
  candidateBerth : Option Nat
  candidateSeq : Option Seq
  position : Option Nat
  expected : Option Seq
  current : Option Nat
  prevLocked : Option (Nat × Seq)
  group : GroupState
  groupCandidate : Option Seq
  groupStart : Option Seq
  groupErrors : Nat
  searchCount : Nat
  code : BitVec 4
  codeCandidate : Option (BitVec 4)
  quietFlag : Bool
  quietTimer : Option Word
  deriving DecidableEq, Repr

/-- Eight byte places for the tail word, each filled or empty (spec/03, 3.1; spec/07, 7.1). -/
abbrev TailCapture := Vector (Option Byte) 8

/-- The empty tail capture. -/
def emptyTail : TailCapture := #v[none, none, none, none, none, none, none, none]

/-- The ring record (spec/01, 1.1), with the ring's tail capture (spec/03, 3.1) and its roster (spec/05, 5.1). -/
structure RingRecord where
  profile : RingProfile
  poolOffset : Option Nat
  validity : Validity
  opState : OpState
  occupancy : Nat
  tracking : Tracking
  tailCapture : TailCapture
  roster : Vector Slot 4
  deriving DecidableEq, Repr

/-- A berth's states (R10). -/
inductive BerthState where
  | free | filling | settling | checking | staged | ready | damaged
  deriving DecidableEq, Repr

/-- The damage causes of R8. -/
inductive DamageCause where
  | leadError | lengthError | fillOrder | tailError | checkError | abandoned | verifyFailed | memoryFault
  deriving DecidableEq, Repr

/-- A berth record (R8). Bit k of `pendingSet` is slot k. -/
structure Berth where
  state : BerthState
  generation : BitVec 8
  seq : Option Seq
  claimant : Option Initiator
  fillCursor : Nat
  payload : Option (BitVec 16)
  code : Option (BitVec 4)
  mark : Option Bool
  check : Word
  outstanding : Nat
  damage : Option DamageCause
  pendingSet : BitVec 4
  deriving DecidableEq, Repr

/-! ## The Hold Queue -/

/-- What a passed judged read reports when memory completes it without fault (R92). -/
inductive ReadOutcome where
  | okay | poisoned
  deriving DecidableEq, Repr

/-- A taken place of the Hold Queue (R96): an entry while `released` is absent, a released read with its outcome
after its release (R99). -/
structure HoldPlace where
  read : ReadTx
  ring : RingId
  berth : Nat
  arrival : Word
  deadline : Word
  released : Option ReadOutcome
  deriving DecidableEq, Repr

/-! ## The Verify Engine -/

/-- A verify job's phases (R112). -/
inductive JobPhase where
  | waiting | reading | comparing
  deriving DecidableEq, Repr

/-- A verify job (spec/07, 7.1). -/
structure VerifyJob where
  ring : RingId
  berth : Nat
  generation : BitVec 8
  tries : Nat
  phase : JobPhase
  deriving DecidableEq, Repr

/-- The Verify Engine (spec/07, 7.1): the queue, its head the active job; the active job's read cursor,
recomputed check and tail capture; and the outstanding verify reads. -/
structure VerifyEngine where
  queue : List VerifyJob
  cursor : Nat
  check : Word
  tail : TailCapture
  outstanding : Nat
  deriving DecidableEq, Repr

/-! ## The Memory Port -/

/-- The tag of a tracked producer write (R39). -/
structure TrackTag where
  ring : RingId
  berth : Nat
  generation : BitVec 8
  deriving DecidableEq, Repr

/-- What a pass-through entry holds beside its transaction's common fields (R124, R126). -/
inductive PassBody where
  | read (outcome : ReadOutcome)
  | write (data : List Byte) (tracked : Option TrackTag)
  deriving DecidableEq, Repr

/-- A held entry of the pass-through queue, waiting or issued (R126). -/
structure PassEntry where
  initiator : Initiator
  tag : Tag
  address : Addr
  length : Nat
  body : PassBody
  issued : Bool
  deriving DecidableEq, Repr

/-- Which of its writes a Report Engine request is (R128); a REPORTS_DROPPED write keeps the count it carries (R166). -/
inductive ReportWrite where
  | record
  | dropped (count : Word)
  | headWord
  | snapshotPart (part : Nat)
  deriving DecidableEq, Repr

/-- Which step of the load a loader request is (R128). -/
inductive LoaderStep where
  | readBlock (block : Nat)
  | headWord
  | statusWord
  deriving DecidableEq, Repr

/-- The origin of an in-flight request (R128). A pass-through request refers to its entry by initiator and tag,
which no two outstanding transactions share (R123); a verify read keeps its berth's index too (log entry 7). -/
inductive Origin where
  | passThrough (initiator : Initiator) (tag : Tag)
  | verify (ring : RingId) (berth : Nat) (index : Nat) (generation : BitVec 8)
  | report (write : ReportWrite)
  | loader (step : LoaderStep)
  deriving DecidableEq, Repr

/-- A request issued to memory and not yet completed (R128); `write` holds a write's bytes and is absent for a read. -/
structure Request where
  origin : Origin
  address : Addr
  length : Nat
  write : Option (List Byte)
  deriving DecidableEq, Repr

/-- The four sources of the port arbiter, in cyclic order (R129). -/
inductive Source where
  | passThrough | verify | report | loader
  deriving DecidableEq, Repr

/-- The Memory Port (spec/08): both lists are in order, oldest first. -/
structure MemoryPort where
  passThrough : List PassEntry
  inFlight : List Request
  lastGranted : Source
  deriving DecidableEq, Repr

/-! ## The Control Unit -/

/-- The command unit's states (R153, R156, R159). -/
inductive UnitState where
  | loading | idle | busy
  deriving DecidableEq, Repr

/-- The results of a load (R151). -/
inductive LoadResult where
  | accepted | rejectedCheck | rejectedDevice | memoryFault
  deriving DecidableEq, Repr

/-- The kinds of load; a RELOAD keeps its writer and slot byte for the records at its end (R154, R158, R159). -/
inductive LoadKind where
  | startUp
  | reload (writer : Initiator) (slot : Byte)
  deriving DecidableEq, Repr

/-- Where a load stands (R152, R153): reading, or about to write or writing one of its two words. -/
inductive LoadPhase where
  | reading
  | headWord (issued : Bool)
  | statusWord (issued : Bool)
  deriving DecidableEq, Repr

/-- A load in progress (R152, R153): the image read so far, the reads issued and completed, the result once
decided, the pool offsets of the rings found valid, and whether its head word write has completed. -/
structure Load where
  kind : LoadKind
  phase : LoadPhase
  image : List Byte
  issued : Nat
  completed : Nat
  result : Option LoadResult
  verdict : Vector (Option Nat) 8
  headWritten : Bool
  deriving DecidableEq, Repr

/-- The Control Unit (spec/10): the device profile in force, the command unit, the load count, the load attention
flag and the load in progress. The ring profiles in force stand in the ring records (R2). -/
structure ControlUnit where
  device : Option DeviceProfile
  unit : UnitState
  loadCount : Word
  attention : Bool
  load : Option Load
  deriving DecidableEq, Repr

/-! ## The Report Engine and the counters -/

/-- One ring's counters and overflow mask (R171), the counters in index order. -/
structure CounterSet where
  values : Vector Word 16
  overflow : BitVec 16
  deriving DecidableEq, Repr

/-- The snapshot copy buffer (R173). -/
structure SnapshotCopy where
  counters : Vector CounterSet 8
  period : Word
  time : Word
  deriving DecidableEq, Repr

/-- The snapshot write-out state (R173). -/
inductive WriteOut where
  | idle
  | writing (nextPart faults : Nat)
  deriving DecidableEq, Repr

/-- Which of the two alternating writes had the last turn (R165). -/
inductive Turn where
  | record | part
  deriving DecidableEq, Repr

/-- The Report Engine (R162, R173). -/
structure ReportEngine where
  head : Nat
  tail : Nat
  buffer : List Record
  dropped : Word
  headOwed : Bool
  lastTurn : Turn
  copy : SnapshotCopy
  period : Word
  writeOut : WriteOut
  snapshotPending : Bool
  periodTimer : Option Word
  deriving DecidableEq, Repr

/-! ## Pins, Time Base, link -/

/-- The input pins as last seen: RESET_N and WEN as levels (true is high), CTLSEL as sampled (spec/00, Pins). -/
structure Pins where
  resetN : Bool
  wen : Bool
  ctlsel : BitVec 4
  deriving DecidableEq, Repr

/-- The Time Base (R160): the count, the divisor a commit has set, and the divisor of the microsecond under way. -/
structure TimeBase where
  now : Word
  divisor : Nat
  running : Nat
  deriving DecidableEq, Repr

/-- The responses of the upstream link (R125). -/
inductive ResponseCode where
  | okay | refused | notReady | poisoned | lapped | malformed | memfault
  deriving DecidableEq, Repr

/-- A response: the transaction's initiator and tag, and data for OKAY and POISONED reads (R125). -/
structure Response where
  initiator : Initiator
  tag : Tag
  code : ResponseCode
  data : List Byte
  deriving DecidableEq, Repr

/-! ## The state -/

/-- The state of the part. `link` holds the transactions presented on the upstream link and not yet accepted, in
link order (R122); `responses` is every response the part has sent, oldest first (R125, log entry 5). -/
structure State where
  pins : Pins
  timeBase : TimeBase
  link : List Transaction
  responses : List Response
  rings : Vector RingRecord 8
  pool : Vector Berth 2048
  holds : List HoldPlace
  verify : VerifyEngine
  port : MemoryPort
  episode : Bool
  control : ControlUnit
  report : ReportEngine
  counters : Vector CounterSet 8
  pending : List Instr
  deriving DecidableEq, Repr

/-! ## Reset values -/

/-- Profile fields before any load: no ring has a valid profile then, and nothing reads them (log entry 4). -/
def RingProfile.blank : RingProfile where
  windowBase := 0
  sizeExponent := 0
  berthCount := 0
  sync := 0
  primary := 0
  alternate := none
  consumers := #v[none, none, none, none]
  verify := false
  strict := false
  keepSearching := false
  abandonOnQuiet := false
  reframeOnExcess := false
  poisonDamaged := false
  overrun := .block
  confirmCount := 0
  lockRule := .leadOnly
  groupSize := 0
  publishMode := .berth
  holdLimit := 0
  quietLimit := 0
  verifyTries := 0
  excessThreshold := 0

/-- The tracking values of R3, both columns: they differ in the group unit's state alone. -/
def Tracking.rest (g : GroupState) : Tracking where
  align := .hunt
  errorCount := 0
  confirmProgress := 0
  candidateBerth := none
  candidateSeq := none
  position := none
  expected := none
  current := none
  prevLocked := none
  group := g
  groupCandidate := none
  groupStart := none
  groupErrors := 0
  searchCount := 0
  code := 0
  codeCandidate := none
  quietFlag := false
  quietTimer := none

/-- A slot with no consumer (R78). -/
def Slot.vacant : Slot := ⟨.vacant, none, none, false⟩

/-- A FREE berth of a given generation (R8). -/
def Berth.free (generation : BitVec 8) : Berth where
  state := .free
  generation := generation
  seq := none
  claimant := none
  fillCursor := 0
  payload := none
  code := none
  mark := none
  check := crcInit
  outstanding := 0
  damage := none
  pendingSet := 0

/-- A ring at device reset (R2, R3, R62, R78). -/
def RingRecord.reset : RingRecord where
  profile := RingProfile.blank
  poolOffset := none
  validity := .none
  opState := .disabled
  occupancy := 0
  tracking := Tracking.rest .off
  tailCapture := emptyTail
  roster := Vector.replicate 4 Slot.vacant

/-- Counters at device reset (R172). -/
def CounterSet.zero : CounterSet := ⟨Vector.replicate 16 0, 0⟩

/-- The machine at device reset, RESET_N low (R2, R7, R96, R110, R132, R135, R156, R160, R163, R173). WEN's level,
CTLSEL before its sampling, the engine's per-try fields and the copy buffer have no value in the manual: they are
0, low and empty (log entry 4). -/
def State.reset : State where
  pins := ⟨false, false, 0⟩
  timeBase := ⟨0, resetDivisor, resetDivisor⟩
  link := []
  responses := []
  rings := Vector.replicate 8 RingRecord.reset
  pool := Vector.replicate 2048 (Berth.free 0)
  holds := []
  verify := ⟨[], 0, crcInit, emptyTail, 0⟩
  port := ⟨[], [], .loader⟩
  episode := false
  control := ⟨none, .loading, 0, false, none⟩
  report := ⟨0, 0, [], 0, false, .record, ⟨Vector.replicate 8 CounterSet.zero, 0, 0⟩, 0, .idle, false, none⟩
  counters := Vector.replicate 8 CounterSet.zero
  pending := []

end Sys2Proof.Machine
end

