-- ==== Sys2Proof/Machine/Bytes.lean ====
section
/-! DEFINITION. Bytes and the check code: little-endian fields (spec/00, Conventions, Byte order) and the CRC of R17. -/

namespace Sys2Proof.Machine

open Sys2Proof Sys2Proof.Config

/-- Byte k of an image; bytes beyond its end do not occur in a well-formed one and read 0. -/
def byteAt (image : List Byte) (k : Nat) : Byte := image.getD k 0

/-- The little-endian 16-bit field at k. -/
def le16At (image : List Byte) (k : Nat) : BitVec 16 := byteAt image (k + 1) ++ byteAt image k

/-- The little-endian 32-bit field at k. -/
def le32At (image : List Byte) (k : Nat) : Word := le16At image (k + 2) ++ le16At image k

/-- The little-endian 64-bit field at k. -/
def le64At (image : List Byte) (k : Nat) : BitVec 64 := le32At image (k + 4) ++ le32At image k

/-- A 16-bit value as memory holds it. -/
def bytesOf16 (v : BitVec 16) : List Byte := [v.extractLsb' 0 8, v.extractLsb' 8 8]

/-- A 32-bit value as memory holds it. -/
def bytesOf32 (v : Word) : List Byte := bytesOf16 (v.extractLsb' 0 16) ++ bytesOf16 (v.extractLsb' 16 16)

/-- One bit of the reflected CRC (R17). -/
def crcBit (c : Word) : Word := if c.getLsbD 0 then (c >>> 1) ^^^ crcPoly else c >>> 1

/-- One byte fed to a running check (R17). -/
def crcByte (c : Word) (b : Byte) : Word :=
  crcBit (crcBit (crcBit (crcBit (crcBit (crcBit (crcBit (crcBit (c ^^^ b.setWidth 32))))))))

/-- Bytes fed to a running check in order (R17). -/
def crcFeed (c : Word) (bytes : List Byte) : Word := bytes.foldl crcByte c

/-- A running check completed with the final XOR (R17). -/
def crcComplete (c : Word) : Word := c ^^^ 0xFFFFFFFF

/-- The check code of a run of bytes (R17). -/
def crcOf (bytes : List Byte) : Word := crcComplete (crcFeed crcInit bytes)

/-- The bytes of a run at `offset` that lie below `limit` (R17, R44: what the running check is fed). -/
def bytesBelow (limit offset : Nat) (bytes : List Byte) : List Byte := bytes.take (limit - offset)

/-- The tail capture after a run of bytes at `offset` has passed, for a tail word at `t` (R44, R113). -/
def captureTail (t offset : Nat) (bytes : List Byte) (old : TailCapture) : TailCapture :=
  let place (j : Nat) (held : Option Byte) : Option Byte :=
    if offset ≤ t + j then (bytes[t + j - offset]?).or held else held
  #v[place 0 old[0], place 1 old[1], place 2 old[2], place 3 old[3], place 4 old[4], place 5 old[5], place 6 old[6], place 7 old[7]]

/-- The bytes a tail capture holds; the places are all filled when a record ends (R44). -/
def tailBytes (c : TailCapture) : List Byte := c.toList.map (·.getD 0)

/-- The check code of a captured tail word (R16). -/
def tailCheckCode (c : TailCapture) : Word := le32At (tailBytes c) 0

/-- The tail pattern is correct: the sync pattern, then its complement (R16). -/
def tailPatternOk (sync : BitVec 16) (c : TailCapture) : Bool :=
  le16At (tailBytes c) 4 == sync && le16At (tailBytes c) 6 == ~~~sync

end Sys2Proof.Machine
end

