-- ==== Sys2Proof/Machine/Operands.lean ====
section
/-! DEFINITION. The operand forms: what a transaction covers, the lead word a start write carries, the control block's
map, the area an address lies in and the role its initiator has (R12 to R16, R81, R145, R157). -/

namespace Sys2Proof.Machine

open Sys2Proof Sys2Proof.Config

/-! ## A transaction's extent -/

/-- The run of `length` bytes at `offset` touches [lo, hi). -/
def touches (offset length lo hi : Nat) : Bool := offset < hi && lo < offset + length

/-- The run of `length` bytes at `offset` covers byte k. -/
def covers (offset length k : Nat) : Bool := offset ≤ k && k < offset + length

/-- The byte a write that begins at `offset` carries for byte k; 0 where it does not cover k (R158). -/
def writtenByte (w : WriteTx) (offset k : Nat) : Byte :=
  if covers offset w.length k then byteAt w.data (k - offset) else 0

/-- The form check's first two tests (R123): the length lies in 1..64 and the access in one 64-byte block. -/
def extentOk (a : Addr) (length : Nat) : Bool :=
  1 ≤ length && length ≤ 64 && a.toNat / 64 == (a.toNat + length - 1) / 64

/-! ## Roles (R14) -/

/-- The initiator is the ring's primary or alternate producer. -/
def RingProfile.isProducer (p : RingProfile) (i : Initiator) : Bool := i == p.primary || p.alternate == some i

/-- The four slots in order. -/
def allSlots : List SlotId := [0, 1, 2, 3]

/-- Changes each slot of a roster. -/
def mapSlots (f : SlotId → Slot → Slot) (v : Vector Slot 4) : Vector Slot 4 := #v[f 0 v[0], f 1 v[1], f 2 v[2], f 3 v[3]]

/-- The eight rings in order. -/
def allRings : List RingId := [0, 1, 2, 3, 4, 5, 6, 7]

/-- The slot at which the initiator is an attached consumer. -/
def RingRecord.attachedSlot (g : RingRecord) (i : Initiator) : Option SlotId :=
  allSlots.find? fun k => g.roster[k].state == .attached && g.roster[k].initiator == some i

/-- The initiator is a control initiator of the device profile. -/
def DeviceProfile.isControl (d : DeviceProfile) (i : Initiator) : Bool := i == d.controlA || d.controlB == some i

/-! ## Extents and classification (R12, R13, R145) -/

/-- The base of the control block that CTLSEL selects, CTLSEL × 2^32 + 2^32 - 4096: CTLSEL, twenty ones, twelve zeros
(R145). -/
def controlBase (ctlsel : BitVec 4) : Nat := (ctlsel ++ 0xFFFFF000#32).toNat

/-- The address lies in the 4 KiB block that CTLSEL selects (R145). -/
def inControlBlock (ctlsel : BitVec 4) (a : Addr) : Bool := a.extractLsb' 12 24 == ctlsel ++ 0xFFFFF#20

/-- The berth size in bytes. -/
def RingProfile.berthSize (p : RingProfile) : Nat := 2 ^ p.sizeExponent

/-- The bytes a ring's window covers. -/
def RingProfile.windowSize (p : RingProfile) : Nat := p.berthCount * p.berthSize

/-- The first pool record of the ring's run (R7). -/
def RingRecord.poolBase (g : RingRecord) : Nat := g.poolOffset.getD 0

/-- The pool index of a berth of the ring (spec/01, 1.3). -/
def RingRecord.poolIndex (g : RingRecord) (index : Nat) : Nat := g.poolBase + index

/-- The areas of R12. -/
inductive Area where
  | control (offset : Nat)
  | reportRing
  | window (ring : RingId) (index offset : Nat)
  | range (number : SlotId)
  | plain
  deriving DecidableEq, Repr

/-- The address lies in [base, base + size). -/
def within (a base size : Nat) : Bool := base ≤ a && a < base + size

/-- The ring whose window holds the address (R12, R13). -/
def State.windowOf (s : State) (a : Addr) : Option RingId :=
  allRings.find? fun r =>
    s.rings[r].validity == .valid && within a.toNat s.rings[r].profile.windowBase.toNat s.rings[r].profile.windowSize

/-- The address lies in write-protect range n (R137). -/
def DeviceProfile.inRange (d : DeviceProfile) (a : Addr) (n : SlotId) : Bool :=
  match d.ranges[n] with
  | some g => within a.toNat g.base.toNat (4096 * g.size)
  | none => false

/-- The report ring holds the address. -/
def State.inReportRing (s : State) (a : Addr) : Bool :=
  match s.control.device with
  | some d => within a.toNat d.reportBase.toNat (16 * d.reportEntries)
  | none => false

/-- The protect range in use that holds the address. -/
def State.protectRangeOf (s : State) (a : Addr) : Option SlotId :=
  match s.control.device with
  | some d => allSlots.find? (d.inRange a)
  | none => none

/-- The Classifier (R12): the first area that contains the address. -/
def State.classify (s : State) (a : Addr) : Area :=
  if inControlBlock s.pins.ctlsel a then .control (controlOffset a)
  else if s.inReportRing a then .reportRing
  else match s.windowOf a with
    | some r =>
      let p := s.rings[r].profile
      let d := a.toNat - p.windowBase.toNat
      .window r (d / p.berthSize) (d % p.berthSize)
    | none => match s.protectRangeOf a with
      | some n => .range n
      | none => .plain

/-! ## Lead and tail words (R15, R16) -/

/-- The fields the part takes from a lead word (R15). -/
structure Lead where
  seq : Seq
  payload : BitVec 16
  mark : Bool
  code : BitVec 4
  deriving DecidableEq, Repr

/-- The lead of a start write, absent when the lead is bad: shorter than 8 bytes, or of bad sync (R15). -/
def leadOf (sync : BitVec 16) (w : WriteTx) : Option Lead :=
  if 8 ≤ w.length && le16At w.data 0 == sync then
    some ⟨le16At w.data 2, le16At w.data 4, (byteAt w.data 6).getLsbD 7, (byteAt w.data 6).extractLsb' 0 4⟩
  else none

/-- Where the payload ends: 8 + L. -/
def payloadEnd (payload : BitVec 16) : Nat := 8 + payload.toNat

/-- The tail position T: 8 + L rounded up to a multiple of 8 (R16). -/
def tailPosition (payload : BitVec 16) : Nat := (payloadEnd payload + 7) / 8 * 8

/-- The record's end, T + 8 (R16). -/
def recordEnd (payload : BitVec 16) : Nat := tailPosition payload + 8

/-! ## Words of the control block (R81, R145, R157) -/

/-- The first offset of the cursor word of ring r, slot k (R81). -/
def cursorWord (r : RingId) (k : SlotId) : Nat := 0x400 + 32 * r.val + 8 * k.val

/-- Every cursor word, in address order. -/
def allCursorWords : List (RingId × SlotId) := allRings.flatMap fun r => allSlots.map fun k => (r, k)

/-- The command a write of the command word gives (R157, R158). -/
structure CommandWord where
  writer : Initiator
  opcode : Byte
  ring : Byte
  slot : Byte
  deriving DecidableEq, Repr

/-- The command word as a write at `offset` of the control block carries it. -/
def commandOf (offset : Nat) (w : WriteTx) : CommandWord :=
  ⟨w.initiator, writtenByte w offset 0x300, writtenByte w offset 0x301, writtenByte w offset 0x302⟩

/-- A ring named by a byte 0..7. -/
def ringOfByte (b : Byte) : RingId := Fin.ofNat 8 b.toNat

/-- A slot named by a byte, when it lies in 0..3. -/
def slotOfByte? (b : Byte) : Option SlotId := if h : b.toNat < 4 then some ⟨b.toNat, h⟩ else none

end Sys2Proof.Machine
end

