-- ==== Sys2Proof/Machine/Flags.lean ====
section
/-! DEFINITION. Comparisons and conditions: sequence arithmetic (R11, R66), the conditions under which a unit acts
(R37, R72, R122, R163) and the level of INT_N (R168). -/

namespace Sys2Proof.Machine

open Sys2Proof Sys2Proof.Config

/-! ## Sequence arithmetic -/

/-- a is ahead of b: (a - b) modulo 65536 lies in 1..32767 (R11). -/
def seqAhead (a b : Seq) : Bool := 1 ≤ (a - b).toNat && (a - b).toNat ≤ 32767

/-- The cursor passes the sequence (R11). -/
def passes (cursor s : Seq) : Bool := seqAhead cursor s

/-- The signed difference of t from a (R66). -/
def signedDiff (t a : Seq) : Int := (t - a).toInt

/-- The group position of t for a group size and a group start (R66). -/
def groupPosition (size : Nat) (start t : Seq) : Nat := (signedDiff t start % (size : Int)).toNat

/-- The base of t's group (R66). -/
def groupBase (size : Nat) (start t : Seq) : Seq := t - BitVec.ofNat 16 (groupPosition size start t)

/-- t lies in the group with this base (R66). -/
def inGroup (size : Nat) (base t : Seq) : Bool := (t - base).toNat < size

/-- The group is closed: the latest claimed sequence is none of its first size - 1 sequences (R72). -/
def groupClosed (size : Nat) (base latest : Seq) : Bool := size ≤ (latest - base).toNat + 1

/-! ## Berths and slots -/

/-- A berth is live in every state but FREE (spec/01, 1.5). -/
def BerthState.live : BerthState → Bool
  | .free => false
  | .filling => true
  | .settling => true
  | .checking => true
  | .staged => true
  | .ready => true
  | .damaged => true

/-- A berth on its way holds its group back (R72). -/
def BerthState.onItsWay : BerthState → Bool
  | .filling => true
  | .settling => true
  | .checking => true
  | .free => false
  | .staged => false
  | .ready => false
  | .damaged => false

/-- A continuation in HUNT, or a bad-lead start there, passes into a berth of this state (R18, R48). -/
def BerthState.passesInHunt : BerthState → Bool
  | .free => true
  | .damaged => true
  | .filling => false
  | .settling => false
  | .checking => false
  | .staged => false
  | .ready => false

/-- A slot is placed in a pending set formed for this sequence (R86). -/
def Slot.mustRelease (k : Slot) (s : Seq) : Bool :=
  k.state == .attached && !(match k.cursor with | some c => passes c s | none => false)

/-- A hold place is an entry, not yet released. -/
def HoldPlace.waiting (h : HoldPlace) : Bool := h.released.isNone

/-! ## Conditions -/

/-- Quiet detection runs for the ring (R37). -/
def RingRecord.quietRuns (g : RingRecord) : Bool :=
  g.opState == .active && g.tracking.align == .locked && g.profile.quietLimit != 0 && g.tracking.code != 15

/-- A released read waits for a pass-through entry (R100). -/
def State.releasedWaits (s : State) : Bool := s.holds.any fun h => !h.waiting

/-- The pass-through queue has a free entry (R126). -/
def State.passThroughFree (s : State) : Bool := s.port.passThrough.length < passThroughDepth

/-- The Upstream Port accepts the head of the link (R122). -/
def State.accepts (s : State) : Bool := s.control.unit != .loading && s.passThroughFree && !s.releasedWaits

/-- A transaction with this initiator and tag is outstanding (spec/08, 8.1). -/
def State.tagOutstanding (s : State) (i : Initiator) (t : Tag) : Bool :=
  s.port.passThrough.any (fun e => e.initiator == i && e.tag == t) ||
    s.holds.any (fun h => h.read.initiator == i && h.read.tag == t)

/-- The in-flight list has room (R128). -/
def State.inFlightRoom (s : State) : Bool := s.port.inFlight.length < inFlightDepth

/-- A Report Engine write is outstanding (R165). -/
def State.reportOutstanding (s : State) : Bool :=
  s.port.inFlight.any fun q => match q.origin with
    | .report _ => true
    | .passThrough _ _ => false
    | .verify _ _ _ _ => false
    | .loader _ => false

/-- The unread records of the report ring: (head - tail) mod entries (R163). -/
def unreadSpan (entries head tail : Nat) : Nat := (head + entries - tail) % entries

/-- The report ring has room (R163); there is no ring, so no room, without a profile. -/
def State.reportRoom (s : State) : Bool :=
  match s.control.device with
  | some d => unreadSpan d.reportEntries s.report.head s.report.tail + 1 < d.reportEntries
  | none => false

/-- The loader is in its writing phase, in which the Report Engine requests nothing (R153, R165). -/
def State.loaderWriting (s : State) : Bool :=
  match s.control.load with
  | some l => match l.phase with
    | .reading => false
    | .headWord _ => true
    | .statusWord _ => true
  | none => false

/-- INT_N is asserted, low (R168). -/
def State.intAsserted (s : State) : Bool :=
  (match s.control.device with
    | some d => d.interruptEnable && s.report.head != s.report.tail
    | none => false) || s.control.attention

/-- A hold entry's deadline is reached and it is still waiting (R102). -/
def State.holdDue (s : State) (h : HoldPlace) : Bool := h.waiting && h.deadline == s.timeBase.now

/-- A ring's quiet timer expires now (R38). -/
def State.quietDue (s : State) (r : RingId) : Bool := s.rings[r].tracking.quietTimer == some s.timeBase.now

/-- The snapshot period timer expires now (R174). -/
def State.periodDue (s : State) : Bool := s.report.periodTimer == some s.timeBase.now

end Sys2Proof.Machine
end

