-- ==== Sys2Proof/Machine/Ops.lean ====
section
/-! DEFINITION. The named operations over the state: one per block, through which everything else reads and writes
it; counting (R172), raising records (R164) and sending responses (R125). A block has no exception entry: an error
is one of these effects. -/

namespace Sys2Proof.Machine

open Sys2Proof Sys2Proof.Config

/-! ## One update per block -/

/-- Changes the input pins. -/
def State.modPins (f : Pins → Pins) (s : State) : State := { s with pins := f s.pins }

/-- Changes the Time Base. -/
def State.modTimeBase (f : TimeBase → TimeBase) (s : State) : State := { s with timeBase := f s.timeBase }

/-- Changes the upstream link's waiting transactions. -/
def State.modLink (f : List Transaction → List Transaction) (s : State) : State := { s with link := f s.link }

/-- Changes one ring record. -/
def State.modRing (r : RingId) (f : RingRecord → RingRecord) (s : State) : State :=
  { s with rings := s.rings.set r.val (f s.rings[r]) }

/-- Changes the tracking fields of one ring. -/
def State.modTracking (r : RingId) (f : Tracking → Tracking) (s : State) : State :=
  s.modRing r fun g => { g with tracking := f g.tracking }

/-- Reads a berth record by pool index; the pool has no others. -/
def State.berth (s : State) (p : Nat) : Berth := if h : p < 2048 then s.pool[p] else Berth.free 0

/-- Changes one berth record by pool index. -/
def State.modBerth (p : Nat) (f : Berth → Berth) (s : State) : State :=
  if h : p < 2048 then { s with pool := s.pool.set p (f s.pool[p]) } else s

/-- Changes the Hold Queue. -/
def State.modHolds (f : List HoldPlace → List HoldPlace) (s : State) : State := { s with holds := f s.holds }

/-- Changes the Verify Engine. -/
def State.modVerify (f : VerifyEngine → VerifyEngine) (s : State) : State := { s with verify := f s.verify }

/-- Changes the Memory Port. -/
def State.modPort (f : MemoryPort → MemoryPort) (s : State) : State := { s with port := f s.port }

/-- Sets or clears the write-disabled episode flag (R135). -/
def State.setEpisode (b : Bool) (s : State) : State := { s with episode := b }

/-- Changes the Control Unit. -/
def State.modControl (f : ControlUnit → ControlUnit) (s : State) : State := { s with control := f s.control }

/-- Changes the Report Engine. -/
def State.modReport (f : ReportEngine → ReportEngine) (s : State) : State := { s with report := f s.report }

/-- Changes one ring's counters. -/
def State.modCounters (r : RingId) (f : CounterSet → CounterSet) (s : State) : State :=
  { s with counters := s.counters.set r.val (f s.counters[r]) }

/-- Sends a response (R125). -/
def State.respond (i : Initiator) (t : Tag) (code : ResponseCode) (data : List Byte) (s : State) : State :=
  { s with responses := s.responses ++ [⟨i, t, code, data⟩] }

/-! ## Reads -/

/-- The pool index of berth `index` of ring r. -/
def State.poolIndex (s : State) (r : RingId) (index : Nat) : Nat := s.rings[r].poolIndex index

/-- Berth `index` of ring r. -/
def State.ringBerth (s : State) (r : RingId) (index : Nat) : Berth := s.berth (s.poolIndex r index)

/-- The berth indices of ring r. -/
def State.berthIndices (s : State) (r : RingId) : List Nat := List.range s.rings[r].profile.berthCount

/-- The ring's current berth is FILLING, at this index (R29). -/
def State.fillingCurrent (s : State) (r : RingId) : Option Nat :=
  match s.rings[r].tracking.current with
  | some b => if (s.ringBerth r b).state = .filling then some b else none
  | none => none

/-! ## Counters (R171, R172) -/

/-- The counters of R171, by index. -/
inductive Counter where
  | berthsSealed | berthsDamaged | checkErrors | leadErrors | sequenceBreaks | slips | lockLosses | groupErrors
  | writesRefused | overruns | reclaims | holdsStarted | holdsExpired | verifyRetries | peakOccupancy | peakHoldTime
  deriving DecidableEq, Repr

/-- A counter's index (R171). -/
def Counter.index : Counter → Fin 16
  | .berthsSealed => 0
  | .berthsDamaged => 1
  | .checkErrors => 2
  | .leadErrors => 3
  | .sequenceBreaks => 4
  | .slips => 5
  | .lockLosses => 6
  | .groupErrors => 7
  | .writesRefused => 8
  | .overruns => 9
  | .reclaims => 10
  | .holdsStarted => 11
  | .holdsExpired => 12
  | .verifyRetries => 13
  | .peakOccupancy => 14
  | .peakHoldTime => 15

/-- A counter's value. -/
def CounterSet.get (k : CounterSet) (c : Counter) : Word := k.values[c.index]

/-- A counter set to a value. -/
def CounterSet.put (c : Counter) (v : Word) (k : CounterSet) : CounterSet :=
  { k with values := k.values.set c.index.val v }

/-- An increment: a counter at 0xFFFFFFFF stays and sets its overflow bit (R172). -/
def CounterSet.increment (c : Counter) (k : CounterSet) : CounterSet :=
  if k.get c = 0xFFFFFFFF then { k with overflow := k.overflow ||| (1#16 <<< c.index.val) }
  else k.put c (k.get c + 1)

/-- A peak counter takes a larger value (R172). -/
def CounterSet.raiseTo (c : Counter) (v : Word) (k : CounterSet) : CounterSet := if k.get c < v then k.put c v else k

/-- A counter of ring r. -/
def State.counter (s : State) (r : RingId) (c : Counter) : Word := s.counters[r].get c

/-- Counts an event of ring r (R172). -/
def State.count (r : RingId) (c : Counter) (s : State) : State := s.modCounters r (CounterSet.increment c)

/-- Measures a peak of ring r (R172). -/
def State.raisePeak (r : RingId) (c : Counter) (v : Word) (s : State) : State := s.modCounters r (CounterSet.raiseTo c v)

/-- The ring's occupancy rises by 1, and PEAK_OCCUPANCY with it (R95). -/
def State.occupancyUp (r : RingId) (s : State) : State :=
  let n := s.rings[r].occupancy + 1
  (s.modRing r fun g => { g with occupancy := n }).raisePeak r .peakOccupancy (BitVec.ofNat 32 n)

/-- The ring's occupancy falls by 1 (R95). -/
def State.occupancyDown (r : RingId) (s : State) : State :=
  s.modRing r fun g => { g with occupancy := g.occupancy - 1 }

/-! ## Records (R163, R164, R170) -/

/-- A kind's code (R170). -/
def ReportKind.code : ReportKind → Nat
  | .loadDone => 1
  | .commandDone => 2
  | .commandRefused => 3
  | .snapshotDone => 4
  | .reportsDropped => 5
  | .lockAcquired => 6
  | .lockLost => 7
  | .alignmentChanged => 8
  | .sequenceBreak => 9
  | .slip => 10
  | .groupLocked => 11
  | .groupLost => 12
  | .groupFallback => 13
  | .berthDamaged => 14
  | .overrunRefused => 15
  | .berthReclaimed => 16
  | .claimConflict => 17
  | .foreignWrite => 18
  | .liveWriteRefused => 19
  | .faultHeld => 20
  | .holdExpired => 21
  | .holdQueueFull => 22
  | .verifySkipped => 23
  | .producerQuiet => 24
  | .producerCode => 25
  | .cursorRefused => 26
  | .cursorRegress => 27
  | .writeDisabled => 28
  | .protectRefused => 29
  | .memoryFault => 30
  | .tailInvalid => 31

/-- The record as memory holds it (R163). -/
def Record.bytes (c : Record) : List Byte :=
  [BitVec.ofNat 8 c.kind.code, c.ring] ++ bytesOf16 c.berth ++ bytesOf16 c.seq ++ [c.initiator, c.detail] ++
    bytesOf32 c.time ++ bytesOf32 c.extra

/-- A 32-bit sum that saturates, as the dropped count does (R164). -/
def saturatingAdd (a b : Word) : Word := if a.toNat + b.toNat < 2 ^ 32 then a + b else 0xFFFFFFFF

/-- Offers a record to the Report Engine (R164). -/
def State.offer (c : Record) (s : State) : State :=
  match s.control.device with
  | none => s
  | some d =>
    if d.eventMask.getLsbD c.kind.code then
      s.modReport fun e =>
        if e.buffer.length < recordBufferDepth then { e with buffer := e.buffer ++ [c] }
        else { e with dropped := saturatingAdd e.dropped 1 }
    else s

/-- Raises a record at the present event: its time is the Time Base count (R163). -/
def State.raise (c : Record) (s : State) : State := s.offer { c with time := s.timeBase.now }

/-- The ring field of a record. -/
def ringField (r : RingId) : Byte := BitVec.ofNat 8 r.val

/-- The berth index field of a record. -/
def berthField (index : Nat) : BitVec 16 := BitVec.ofNat 16 index

/-- The initiator field of a record. -/
def initiatorField (i : Initiator) : Byte := i.setWidth 8

/-- The initiator field for a berth's claimant. -/
def claimantField (b : Berth) : Byte := match b.claimant with | some i => initiatorField i | none => 0

/-- The seq field for a berth: its seq, and 0 for a FREE berth, which has none. -/
def seqField (b : Berth) : Seq := b.seq.getD 0

/-- The address divided by 64, as records carry it. -/
def blockField (a : Addr) : Word := BitVec.ofNat 32 (a.toNat / 64)

/-! ## Passing and refusing (R124, R125) -/

/-- Enters a transaction into the pass-through queue, last (R126). -/
def State.pushPass (e : PassEntry) (s : State) : State :=
  s.modPort fun p => { p with passThrough := p.passThrough ++ [e] }

/-- Passes a read with the outcome it will report (R92, R124). -/
def State.passRead (outcome : ReadOutcome) (r : ReadTx) (s : State) : State :=
  s.pushPass ⟨r.initiator, r.tag, r.address, r.length, .read outcome, false⟩

/-- Passes a write, tracked or not (R39, R124). -/
def State.passWrite (tracked : Option TrackTag) (w : WriteTx) (s : State) : State :=
  s.pushPass ⟨w.initiator, w.tag, w.address, w.length, .write w.data tracked, false⟩

/-- Refuses a write at its arrival (R125). -/
def State.refuse (w : WriteTx) (s : State) : State := s.respond w.initiator w.tag .refused []

/-- Answers a read at its arrival without data (R125). -/
def State.answer (code : ResponseCode) (r : ReadTx) (s : State) : State := s.respond r.initiator r.tag code []

/-- Refuses a write into a ring's window, which WRITES_REFUSED counts (R171), with a record. -/
def State.refuseInWindow (r : RingId) (c : Record) (w : WriteTx) (s : State) : State :=
  ((s.refuse w).raise c).count r .writesRefused

end Sys2Proof.Machine
end

