-- ==== Sys2Proof/Machine/Holds.lean ====
section
/-! DEFINITION. The Hold Queue (spec/06): admission, release, and every end of an entry. -/

namespace Sys2Proof.Machine

open Sys2Proof Sys2Proof.Config

/-- Measures an entry's hold time at the present event (R107). -/
def State.measureHold (h : HoldPlace) (s : State) : State :=
  s.raisePeak h.ring .peakHoldTime (s.timeBase.now - h.arrival)

/-- Releases the entries on a berth with an outcome (R99): each becomes a released read in its place, and its hold
time is measured. The release order is settled at the end of the event (R99, R100; `orderReleased`). -/
def State.releaseHolds (p : Nat) (outcome : ReadOutcome) (s : State) : State :=
  let measured := (s.holds.filter fun h => h.waiting && h.berth == p).foldl (fun s h => s.measureHold h) s
  measured.modHolds fun hs => hs.map fun h =>
    if h.waiting && h.berth == p then { h with released := some outcome } else h

/-- The outcome a released read carries for a berth that became READY or DAMAGED (R99), which is also what a judged
read of it reports (R90). -/
def readOutcome (g : RingRecord) (state : BerthState) : ReadOutcome :=
  if state = .damaged && g.profile.poisonDamaged then .poisoned else .okay

/-- Ends one entry without data: NOT_READY (spec/06, 6.4), its hold time measured or not (R103). -/
def State.endHold (measured : Bool) (h : HoldPlace) (s : State) : State :=
  (if measured then s.measureHold h else s).answer .notReady h.read

/-- Ends the entries that meet a condition, in arrival order (R103). -/
def State.endHolds (measured : Bool) (which : HoldPlace → Bool) (s : State) : State :=
  (s.holds.filter fun h => h.waiting && which h).foldl (fun s h => s.endHold measured h)
    (s.modHolds fun hs => hs.filter fun h => !(h.waiting && which h))

/-- The entry lies on a berth of ring r that is neither READY nor DAMAGED (R103). -/
def State.unreadyHold (s : State) (r : RingId) (h : HoldPlace) : Bool :=
  h.ring == r && (s.berth h.berth).state != .ready && (s.berth h.berth).state != .damaged

/-- Admits an offered read, or answers it NOT_READY when all places are taken (R97). -/
def State.offerHold (r : RingId) (index : Nat) (t : ReadTx) (s : State) : State :=
  if s.holds.length < holdPlaces then
    (s.modHolds fun hs => hs ++ [
      { read := t, ring := r, berth := s.poolIndex r index, arrival := s.timeBase.now
        deadline := s.timeBase.now + s.rings[r].profile.holdLimit.setWidth 32, released := none }]).count r .holdsStarted
  else
    (s.answer .notReady t).raise
      { kind := .holdQueueFull, ring := ringField r, berth := berthField index, seq := seqField (s.ringBerth r index)
        initiator := initiatorField t.initiator, extra := t.tag.setWidth 32 }

/-- The index in its ring of an entry's berth. -/
def State.holdIndex (s : State) (h : HoldPlace) : Nat := h.berth - s.rings[h.ring].poolBase

/-- An entry's deadline is reached (R102). -/
def State.expireHold (h : HoldPlace) (s : State) : State :=
  (((s.modHolds fun hs => hs.erase h).endHold true h).raise
    { kind := .holdExpired, ring := ringField h.ring, berth := berthField (s.holdIndex h), seq := seqField (s.berth h.berth)
      initiator := initiatorField h.read.initiator, extra := h.read.tag.setWidth 32 }).count h.ring .holdsExpired

/-- The places in order: released reads in release order, those of the present event last and in arrival order among
themselves, then the entries in arrival order (R99, R100). -/
def orderReleased (hs : List HoldPlace) : List HoldPlace := hs.filter (!·.waiting) ++ hs.filter (·.waiting)

/-- The first released place and the places without it. -/
def takeReleased : List HoldPlace → Option (ReadTx × ReadOutcome × List HoldPlace)
  | [] => none
  | h :: rest => match h.released with
    | some outcome => some (h.read, outcome, rest)
    | none => match takeReleased rest with
      | some (read, outcome, others) => some (read, outcome, h :: others)
      | none => none

/-- The oldest released read takes a free pass-through entry, if both are there (R100). -/
def State.enterReleased (s : State) : State :=
  match takeReleased s.holds with
  | some (read, outcome, others) =>
    if s.passThroughFree then (s.modHolds fun _ => others).passRead outcome read else s
  | none => s

/-- Released reads take the free pass-through entries, oldest first (R100); the count bounds how many. -/
def State.enterAllReleased : Nat → State → State
  | 0, s => s
  | n + 1, s => if s.releasedWaits && s.passThroughFree then State.enterAllReleased n s.enterReleased else s

/-- Released reads take the free pass-through entries, oldest first, as far as these allow (R100). -/
def State.enterReleases (s : State) : State := State.enterAllReleased s.holds.length s

/-- The number of released reads that wait. -/
def State.releasedCount (s : State) : Nat := (s.holds.filter (!·.waiting)).length

/-- The end of an event: if the event released reads, they join the release order and take the free pass-through
entries (R99, R100). -/
def State.settleReleases (before after : State) : State :=
  if before.releasedCount < after.releasedCount then (after.modHolds orderReleased).enterReleases else after

end Sys2Proof.Machine
end

