-- ==== Sys2Proof/Machine/Berths.lean ====
section
/-! DEFINITION. A berth's later life: pending sets and release (R84, R86), publication and damage (R40, R63, R64),
group completion (R72 to R74) and the verify queue as the Berth Store and the commands reach it (R110 to R112, R119). -/

namespace Sys2Proof.Machine

open Sys2Proof Sys2Proof.Config

/-! ## The verify queue -/

/-- The active job begins a try (R112). -/
def VerifyEngine.beginTry (e : VerifyEngine) : VerifyEngine :=
  match e.queue with
  | [] => e
  | j :: rest =>
    { e with
      queue := { j with tries := j.tries + 1, phase := .reading } :: rest
      cursor := 0
      check := crcInit
      tail := emptyTail }

/-- The job at the head of the queue becomes active, if it is not active already (R112). -/
def VerifyEngine.activate (e : VerifyEngine) : VerifyEngine :=
  match e.queue with
  | [] => e
  | j :: _ => if j.phase = .waiting then e.beginTry else e

/-- Adds a job as the last entry; in an empty queue it is active at once (R111). -/
def VerifyEngine.enqueue (r : RingId) (p : Nat) (generation : BitVec 8) (e : VerifyEngine) : VerifyEngine :=
  VerifyEngine.activate { e with queue := e.queue ++ [⟨r, p, generation, 0, .waiting⟩] }

/-- Takes a berth's job out of the queue (step 3 of R40, R119). -/
def VerifyEngine.remove (p : Nat) (e : VerifyEngine) : VerifyEngine := { e with queue := e.queue.filter (·.berth != p) }

/-- Takes a ring's jobs out of the queue (R5, R119). -/
def VerifyEngine.removeRing (r : RingId) (e : VerifyEngine) : VerifyEngine :=
  { e with queue := e.queue.filter (·.ring != r) }

/-! ## Pending sets and release -/

/-- A berth takes its FREE values, keeping its generation (R8, R84). -/
def Berth.freed (b : Berth) : Berth := Berth.free b.generation

/-- A berth becomes FREE by release, and occupancy falls (R84, R95). -/
def State.freeBerth (r : RingId) (index : Nat) (s : State) : State :=
  (s.modBerth (s.poolIndex r index) Berth.freed).occupancyDown r

/-- The slots that must release a berth of this sequence (R86). -/
def RingRecord.pendingFor (g : RingRecord) (q : Seq) : BitVec 4 :=
  allSlots.foldl (fun m k => if g.roster[k].mustRelease q then m ||| (1#4 <<< k.val) else m) 0

/-- Forms a berth's pending set; when it is formed empty the berth becomes FREE at once (R86). -/
def State.formPending (r : RingId) (index : Nat) (s : State) : State :=
  let m := s.rings[r].pendingFor (seqField (s.ringBerth r index))
  if m = 0 then s.freeBerth r index
  else s.modBerth (s.poolIndex r index) fun b => { b with pendingSet := m }

/-- Releases a slot from a berth that waits for it (R84). -/
def State.releaseSlot (r : RingId) (k : SlotId) (index : Nat) (s : State) : State :=
  let b := s.ringBerth r index
  if b.pendingSet.getLsbD k.val then
    let m := b.pendingSet &&& ~~~(1#4 <<< k.val)
    if m = 0 then s.freeBerth r index
    else s.modBerth (s.poolIndex r index) fun b => { b with pendingSet := m }
  else s

/-- Releases a slot from every berth of the ring that meets a condition (R80, R83). -/
def State.releaseSlotWhere (r : RingId) (k : SlotId) (which : Berth → Bool) (s : State) : State :=
  (s.berthIndices r).foldl (fun s i => if which (s.ringBerth r i) then s.releaseSlot r k i else s) s

/-! ## Publication -/

/-- A berth becomes READY (R64). -/
def State.publish (r : RingId) (index : Nat) (s : State) : State :=
  ((s.modBerth (s.poolIndex r index) fun b => { b with state := .ready }).formPending r index).releaseHolds
    (s.poolIndex r index) .okay

/-- Inserts an element before the first that it precedes. -/
def insertOrdered {α : Type} (precedes : α → α → Bool) (a : α) : List α → List α
  | [] => [a]
  | b :: rest => if precedes a b then a :: b :: rest else b :: insertOrdered precedes a rest

/-- Sorts by insertion. -/
def sortOrdered {α : Type} (precedes : α → α → Bool) : List α → List α
  | [] => []
  | a :: rest => insertOrdered precedes a (sortOrdered precedes rest)

/-- The STAGED berths of the ring, with their sequences. -/
def State.stagedBerths (s : State) (r : RingId) : List (Nat × Seq) :=
  (s.berthIndices r).filterMap fun i =>
    if (s.ringBerth r i).state = .staged then some (i, seqField (s.ringBerth r i)) else none

/-- Group bases in the order of their signed difference from the group start (R73). -/
def orderedBases (start : Seq) (bases : List Seq) : List Seq :=
  sortOrdered (fun a b => signedDiff a start < signedDiff b start) bases.eraseDups

/-- The members of a group among some berths, in order of group position (R73). -/
def orderedMembers (size : Nat) (base : Seq) (berths : List (Nat × Seq)) : List Nat :=
  (sortOrdered (fun a b => (a.2 - base).toNat < (b.2 - base).toNat) (berths.filter fun b => inGroup size base b.2)).map (·.1)

/-- The group bases that the STAGED berths of the ring lie in, in the order of R73. -/
def State.stagedBases (s : State) (r : RingId) : List Seq :=
  let g := s.rings[r]
  let start := g.tracking.groupStart.getD 0
  orderedBases start ((s.stagedBerths r).map fun b => groupBase g.profile.groupSize start b.2)

/-- Publishes a berth that is STAGED. -/
def State.publishStaged (r : RingId) (index : Nat) (s : State) : State :=
  if (s.ringBerth r index).state = .staged then s.publish r index else s

/-- Publishes the STAGED berths of the groups with these bases, group by group (R73). -/
def State.publishGroups (r : RingId) (bases : List Seq) (s : State) : State :=
  (bases.flatMap fun b => orderedMembers s.rings[r].profile.groupSize b (s.stagedBerths r)).foldl
    (fun s i => s.publishStaged r i) s

/-- Publishes every STAGED berth of the ring (R74). -/
def State.publishAllStaged (r : RingId) (s : State) : State := s.publishGroups r (s.stagedBases r)

/-- A group of the ring is complete (R72). -/
def State.groupComplete (s : State) (r : RingId) (base : Seq) : Bool :=
  let g := s.rings[r]
  let size := g.profile.groupSize
  groupClosed size base (g.tracking.expected.getD 0 - 1) &&
    !(s.berthIndices r).any fun i =>
      (s.ringBerth r i).state.onItsWay && inGroup size base (seqField (s.ringBerth r i))

/-- The group completion test (R72, R73). -/
def State.groupTest (r : RingId) (s : State) : State :=
  if s.rings[r].tracking.group = .locked then s.publishGroups r ((s.stagedBases r).filter (s.groupComplete r)) else s

/-- A berth becomes STAGED, and the group completion test follows (R63). -/
def State.stage (r : RingId) (index : Nat) (s : State) : State :=
  (s.modBerth (s.poolIndex r index) fun b => { b with state := .staged }).groupTest r

/-- The publication step (R63). -/
def State.publicationStep (r : RingId) (index : Nat) (s : State) : State :=
  let g := s.rings[r]
  if g.opState = .active && g.profile.publishMode = .group && g.tracking.group = .locked then s.stage r index
  else s.publish r index

/-! ## Damage -/

/-- A damage cause's code in the BERTH_DAMAGED record (R170). -/
def DamageCause.code : DamageCause → Byte
  | .leadError => 1
  | .lengthError => 2
  | .fillOrder => 3
  | .tailError => 4
  | .checkError => 5
  | .abandoned => 6
  | .verifyFailed => 7
  | .memoryFault => 8

/-- A berth is damaged (R40); a berth already DAMAGED stays as it is. -/
def State.damage (r : RingId) (index : Nat) (cause : DamageCause) (s : State) : State :=
  let b := s.ringBerth r index
  let p := s.poolIndex r index
  if b.state = .damaged then s
  else
    let cause' := b.damage.getD cause
    let marked := (((s.modBerth p fun b => { b with damage := some cause', state := .damaged }).raise
      { kind := .berthDamaged, ring := ringField r, berth := berthField index, seq := seqField b
        initiator := claimantField b, detail := cause'.code }).count r .berthsDamaged)
    let unqueued := if b.state = .checking then marked.modVerify (VerifyEngine.remove p) else marked
    ((unqueued.formPending r index).releaseHolds p (readOutcome s.rings[r] .damaged)).groupTest r

/-- Abandons the ring's current berth if it is FILLING (R43 and wherever ABANDONED is taken). -/
def State.abandonCurrent (r : RingId) (s : State) : State :=
  match s.fillingCurrent r with
  | some i => s.damage r i .abandoned
  | none => s

end Sys2Proof.Machine
end

