-- ==== Sys2Proof/Machine/Alignment.lean ====
section
/-! DEFINITION. The Ring Tracker's alignment unit and producer monitors (spec/02): lock and its loss, producer code,
producer quiet; and the ring's entry to FAULT_HELD (R140), which freezes them. -/

namespace Sys2Proof.Machine

open Sys2Proof Sys2Proof.Config

/-! ## Lock and loss of lock -/

/-- The fields that become absent or 0 whenever a ring goes back to HUNT (R21, step 5 of R30). -/
def Tracking.toHunt (t : Tracking) : Tracking :=
  { t with
    align := .hunt, errorCount := 0, confirmProgress := 0, candidateBerth := none, candidateSeq := none
    position := none, expected := none, current := none }

/-- A return from CONFIRM to HUNT, which is no loss of lock (R21). -/
def State.returnToHunt (r : RingId) (s : State) : State := (s.abandonCurrent r).modTracking r Tracking.toHunt

/-- The group unit as it stands at GROUP_LOST and at a loss of lock: in SEARCH, its fields absent or 0 (R71, step 3 of R30). -/
def Tracking.toSearch (t : Tracking) : Tracking :=
  if t.group = .off then t
  else { t with group := .search, groupCandidate := none, groupStart := none, groupErrors := 0, searchCount := 0 }

/-- The causes of a loss of lock, by their codes (spec/02, 2.6). -/
inductive LossCause where
  | consecutiveErrors | excessCheck | command
  deriving DecidableEq, Repr

/-- A loss cause's code (spec/02, 2.6). -/
def LossCause.code : LossCause → Byte
  | .consecutiveErrors => 1
  | .excessCheck => 2
  | .command => 3

/-- Step 1 of R30: a LOCKED ring's position and expected sequence become the previously locked position (R31). -/
def Tracking.rememberLock (t : Tracking) : Tracking :=
  if t.align = .locked then { t with prevLocked := some (t.position.getD 0, t.expected.getD 0) } else t

/-- A loss of lock (R30). -/
def State.loseLock (r : RingId) (cause : LossCause) (s : State) : State :=
  let old := s.rings[r].tracking
  let abandoned := (s.modTracking r Tracking.rememberLock).abandonCurrent r
  let published := (abandoned.publishAllStaged r).modTracking r Tracking.toSearch
  let ended := published.endHolds true (published.unreadyHold r)
  let hunting := ended.modTracking r fun t => { t.toHunt with quietTimer := none, quietFlag := false }
  (hunting.raise
    { kind := .lockLost, ring := ringField r, berth := berthField (old.position.getD 0), seq := old.expected.getD 0
      detail := cause.code }).count r .lockLosses

/-- A ring reaches LOCKED at the start of sequence q in berth b (R20, R31): LOCK_ACQUIRED, and ALIGNMENT_CHANGED when
b is not the carried position. -/
def State.acquireLock (r : RingId) (b : Nat) (q : Seq) (producer : Initiator) (s : State) : State :=
  let t := s.rings[r].tracking
  let locked := (s.modTracking r fun t => { t with align := .locked, errorCount := 0 }).raise
    { kind := .lockAcquired, ring := ringField r, berth := berthField b, seq := q, initiator := initiatorField producer
      extra := t.candidateSeq.getD 0 ++ berthField (t.candidateBerth.getD 0) }
  match t.prevLocked with
  | none => locked
  | some (e, x) =>
    let carried := (e + (q - x).toNat) % s.rings[r].profile.berthCount
    if b = carried then locked
    else locked.raise
      { kind := .alignmentChanged, ring := ringField r, berth := berthField b, seq := q
        initiator := initiatorField producer, extra := BitVec.ofNat 32 carried }

/-! ## Producer code and producer quiet -/

/-- The debounced producer code becomes k (R35); PAUSE, code 15, stops the quiet timer (R36). -/
def Tracking.takeCode (k : BitVec 4) (t : Tracking) : Tracking :=
  { t with code := k, codeCandidate := none, quietTimer := if k = 15 then none else t.quietTimer }

/-- A good seal of a berth of producer code k feeds the debounce (R35). -/
def State.debounceCode (r : RingId) (index : Nat) (k : BitVec 4) (s : State) : State :=
  let t := s.rings[r].tracking
  if k = t.code then s.modTracking r fun t => { t with codeCandidate := none }
  else if t.codeCandidate = some k then
    (s.modTracking r (Tracking.takeCode k)).raise
      { kind := .producerCode, ring := ringField r, berth := berthField index, seq := seqField (s.ringBerth r index)
        detail := k.setWidth 8 }
  else s.modTracking r fun t => { t with codeCandidate := some k }

/-- A tracked producer write restarts the quiet timer while quiet detection runs (R37). -/
def State.restartQuiet (r : RingId) (s : State) : State :=
  let g := s.rings[r]
  if g.quietRuns then
    s.modTracking r fun t => { t with quietTimer := some (s.timeBase.now + BitVec.ofNat 32 (g.profile.quietLimit.toNat * 1000)) }
  else s

/-- The quiet timer of a ring expires (R38). Of a current berth that has been released to FREE, and so has no seq, the
record's seq is 0 (DESIGN CHOICE, log entry 29). -/
def State.expireQuiet (r : RingId) (s : State) : State :=
  let g := s.rings[r]
  let stopped := s.modTracking r fun t => { t with quietTimer := none }
  if g.tracking.quietFlag then stopped
  else
    let i := g.tracking.current.getD 0
    let flagged := (stopped.raise
      { kind := .producerQuiet, ring := ringField r, berth := berthField i, seq := seqField (s.ringBerth r i) }).modTracking r
        fun t => { t with quietFlag := true }
    if g.profile.abandonOnQuiet then flagged.abandonCurrent r else flagged

/-! ## Fault hold -/

/-- A ring enters FAULT_HELD, from ACTIVE and under strict (R139, R140): the cause's report kind, the index of the berth
it concerned and the initiator field of the causing write. -/
def State.faultHold (r : RingId) (cause : ReportKind) (index : Nat) (initiator : Byte) (s : State) : State :=
  let g := s.rings[r]
  if g.profile.strict && g.opState = .active then
    let held := s.modRing r fun g => { g with opState := .faultHeld }
    let published := (held.abandonCurrent r).publishAllStaged r
    let ended := published.endHolds true (published.unreadyHold r)
    let n := (published.holds.filter fun h => h.waiting && published.unreadyHold r h).length
    (ended.modTracking r fun t => { t with quietTimer := none }).raise
      { kind := .faultHeld, ring := ringField r, berth := berthField index, seq := seqField (ended.ringBerth r index)
        initiator := initiator, detail := BitVec.ofNat 8 cause.code, extra := BitVec.ofNat 32 n }
  else s

end Sys2Proof.Machine
end

