-- ==== Sys2Proof/Machine/Groups.lean ====
section
/-! DEFINITION. The group unit's examination of a claimed start (R65 to R71). -/

namespace Sys2Proof.Machine

open Sys2Proof Sys2Proof.Config

/-- What the group unit examines of a start: its berth, its sequence, its mark and its claimant (R65). -/
structure Examined where
  berth : Nat
  seq : Seq
  mark : Bool
  claimant : Initiator
  deriving DecidableEq, Repr

/-- The record of a group unit's change of state. -/
def Examined.record (r : RingId) (kind : ReportKind) (x : Examined) : Record :=
  { kind := kind, ring := ringField r, berth := berthField x.berth, seq := x.seq, initiator := initiatorField x.claimant }

/-- The mark locks the unit: marked, with a candidate exactly G behind (R67). -/
def RingRecord.markLocks (g : RingRecord) (x : Examined) : Bool :=
  x.mark && match g.tracking.groupCandidate with
    | some c => (x.seq - c).toNat == g.profile.groupSize
    | none => false

/-- The unit locks (R67). -/
def State.lockGroup (r : RingId) (x : Examined) (s : State) : State :=
  (s.modTracking r fun t =>
    { t with group := .locked, groupStart := some x.seq, groupErrors := 0, groupCandidate := none }).raise
    { x.record r .groupLocked with detail := BitVec.ofNat 8 s.rings[r].profile.groupSize }

/-- A mark that does not lock becomes the candidate (R67). -/
def Tracking.takeCandidate (x : Examined) (t : Tracking) : Tracking :=
  if x.mark then { t with groupCandidate := some x.seq } else t

/-- A start examined in SEARCH (R67, R68). -/
def State.examineSearch (r : RingId) (x : Examined) (s : State) : State :=
  let counted := s.modTracking r fun t => { t with searchCount := t.searchCount + 1 }
  let g := counted.rings[r]
  if g.markLocks x then counted.lockGroup r x
  else
    let taken := counted.modTracking r (Tracking.takeCandidate x)
    if g.tracking.searchCount = 4 * g.profile.groupSize then
      (taken.modTracking r fun t => { t with group := .ungrouped }).raise
        { x.record r .groupFallback with detail := BitVec.ofNat 8 g.profile.groupSize }
    else taken

/-- A start examined in UNGROUPED (R69). -/
def State.examineUngrouped (r : RingId) (x : Examined) (s : State) : State :=
  let g := s.rings[r]
  if g.profile.keepSearching then
    if g.markLocks x then s.lockGroup r x else s.modTracking r (Tracking.takeCandidate x)
  else s

/-- The unit loses its group lock (R71). -/
def State.loseGroup (r : RingId) (x : Examined) (s : State) : State :=
  ((s.publishAllStaged r).modTracking r Tracking.toSearch).raise
    { x.record r .groupLost with extra := BitVec.ofNat 32 (s.stagedBerths r).length }

/-- A start examined in LOCKED (R70, R71). -/
def State.examineLocked (r : RingId) (x : Examined) (s : State) : State :=
  let g := s.rings[r]
  let first := groupPosition g.profile.groupSize (g.tracking.groupStart.getD 0) x.seq == 0
  if first == x.mark then
    s.modTracking r fun t =>
      { t with groupErrors := 0, groupStart := if x.mark then some x.seq else t.groupStart }
  else
    let erred := (s.count r .groupErrors).modTracking r fun t => { t with groupErrors := t.groupErrors + 1 }
    if 2 ≤ erred.rings[r].tracking.groupErrors then erred.loseGroup r x else erred

/-- The group unit examines a start claimed in LOCKED (R65). A start whose own seal has lost the lock by the excess check is
not examined (DESIGN CHOICE, log entry 28). -/
def State.examine (r : RingId) (x : Examined) (s : State) : State :=
  let t := s.rings[r].tracking
  if t.align = .locked then
    match t.group with
    | .off => s
    | .search => s.examineSearch r x
    | .locked => s.examineLocked r x
    | .ungrouped => s.examineUngrouped r x
  else s

end Sys2Proof.Machine
end

