-- ==== Sys2Proof/Machine/Filling.lean ====
section
/-! DEFINITION. The Berth Store's producer side (spec/03): tracked writes, claim, seal, overrun, continuations,
claim conflicts and foreign writes. -/

namespace Sys2Proof.Machine

open Sys2Proof Sys2Proof.Config

/-! ## Tracked writes -/

/-- A tracked write's effect on its berth: it is counted, its bytes below 8 + L are fed to the running check, and the
fill cursor moves to its end (R39, R41, R44). -/
def Berth.take (offset : Nat) (w : WriteTx) (b : Berth) : Berth :=
  { b with
    outstanding := b.outstanding + 1
    fillCursor := offset + w.length
    check := match b.payload with
      | some n => crcFeed b.check (bytesBelow (payloadEnd n) offset w.data)
      | none => b.check }

/-- A tracked write's effect on the ring's tail capture (R41, R44). -/
def RingRecord.capture (payload : Option (BitVec 16)) (offset : Nat) (w : WriteTx) (g : RingRecord) : RingRecord :=
  match payload with
  | some n => { g with tailCapture := captureTail (tailPosition n) offset w.data g.tailCapture }
  | none => g

/-- A write is tracked into a berth: it goes to memory with the berth's generation (R39). -/
def State.trackWrite (r : RingId) (index offset : Nat) (w : WriteTx) (s : State) : State :=
  let p := s.poolIndex r index
  let b := s.ringBerth r index
  (((s.modBerth p (Berth.take offset w)).modRing r (RingRecord.capture b.payload offset w)).passWrite
    (some ⟨r, p, b.generation⟩) w).restartQuiet r

/-! ## Seal -/

/-- The ring's check errors are watched (R33): the loss of lock that a check error causes, if it does. At a start that is also
its record's seal the loss is taken here, within the claim, before the start's examination and before a loss that
the third error would cause (DESIGN CHOICE, log entry 28). -/
def State.watchExcess (r : RingId) (s : State) : State :=
  let g := s.rings[r]
  if g.profile.reframeOnExcess && g.profile.excessThreshold != 0 && g.tracking.align == .locked &&
      g.profile.excessThreshold ≤ (s.counter r .checkErrors).toNat then
    s.loseLock r .excessCheck
  else s

/-- The quiet flag is cleared at a seal (R38, R50). -/
def State.clearQuietFlag (r : RingId) (s : State) : State := s.modTracking r fun t => { t with quietFlag := false }

/-- The seal of a record is judged, and hands on its outcome (R49, R50). A berth that fails keeps its running check as the
seal write left it, not completed (DESIGN CHOICE, log entry 32). The tail capture keeps its bytes, which nothing reads, until
the next claim or clear empties it (DESIGN CHOICE, log entry 33). -/
def State.seal (r : RingId) (index : Nat) (s : State) : State :=
  let g := s.rings[r]
  let b := s.ringBerth r index
  let done := crcComplete b.check
  if !tailPatternOk g.profile.sync g.tailCapture then (s.damage r index .tailError).clearQuietFlag r
  else if done ≠ tailCheckCode g.tailCapture then
    (((s.count r .checkErrors).damage r index .checkError).clearQuietFlag r).watchExcess r
  else
    (((s.modBerth (s.poolIndex r index) fun b => { b with state := .settling, check := done }).count r
      .berthsSealed).clearQuietFlag r).debounceCode r index (b.code.getD 0)

/-- The berth is sealed if its fill cursor has reached the record's end (R41, R44). -/
def State.sealIfComplete (r : RingId) (index : Nat) (s : State) : State :=
  let b := s.ringBerth r index
  match b.payload with
  | some n => if recordEnd n ≤ b.fillCursor then s.seal r index else s
  | none => s

/-! ## Claim -/

/-- What a claim takes from the alignment judgment: the berth, the sequence it gives the record, the lead (absent when
bad), and whether the berth was taken by reclaim (R41). -/
structure Claim where
  berth : Nat
  seq : Seq
  lead : Option Lead
  reclaimed : Bool
  deriving DecidableEq, Repr

/-- The berth's fields at a claim, before the start write is taken (steps 2 and 3 of R41). -/
def Berth.claimed (c : Claim) (writer : Initiator) (b : Berth) : Berth where
  state := .filling
  generation := b.generation + 1
  seq := some c.seq
  claimant := some writer
  fillCursor := 0
  payload := c.lead.map (·.payload)
  code := c.lead.map (·.code)
  mark := c.lead.map (·.mark)
  check := crcInit
  outstanding := 0
  damage := none
  pendingSet := 0

/-- The ring's fields at a claim (step 4 of R41, R29): with them the expected sequence becomes the next, as every
judgment that claims sets it (R19, R20, R23 to R25). An abandonment comes before it (log entry 13). -/
def RingRecord.claimed (c : Claim) (g : RingRecord) : RingRecord :=
  { g with
    tailCapture := emptyTail
    tracking := { g.tracking with
      current := some c.berth, position := some ((c.berth + 1) % g.profile.berthCount), expected := some (c.seq + 1) } }

/-- The checks of R42 and, for a sound lead, the seal of a short record (steps 7 and 8 of R41). -/
def State.judgeClaim (r : RingId) (c : Claim) (s : State) : State :=
  match c.lead with
  | none => s.damage r c.berth .leadError
  | some l =>
    if s.rings[r].profile.berthSize - 16 < l.payload.toNat then s.damage r c.berth .lengthError
    else s.sealIfComplete r c.berth

/-- A claim (R41), and the group completion test at it (R72). -/
def State.claim (r : RingId) (c : Claim) (w : WriteTx) (s : State) : State :=
  let abandoned := s.abandonCurrent r
  let fielded := (abandoned.modBerth (s.poolIndex r c.berth) (Berth.claimed c w.initiator)).modRing r
    (RingRecord.claimed c)
  let counted := if c.reclaimed then fielded else fielded.occupancyUp r
  (((counted.trackWrite r c.berth 0 w).judgeClaim r c)).groupTest r

/-! ## Overrun -/

/-- The slots of a mask become lapped (R88). -/
def RingRecord.lap (mask : BitVec 4) (g : RingRecord) : RingRecord :=
  { g with roster := mapSlots (fun k slot => if mask.getLsbD k.val then { slot with lapped := true } else slot) g.roster }

/-- A berth is taken from its old record under RECLAIM (R57). The berth then stands as FREE for the judgment and the
claim that follow, while occupancy keeps counting it. -/
def State.reclaim (r : RingId) (index : Nat) (writer : Initiator) (s : State) : State :=
  let b := s.ringBerth r index
  let p := s.poolIndex r index
  let ended := (s.modRing r (RingRecord.lap b.pendingSet)).endHolds true fun h => h.berth == p
  let cancelled := if b.state = .checking then ended.modVerify fun e => (e.remove p).activate else ended
  ((cancelled.raise
    { kind := .berthReclaimed, ring := ringField r, berth := berthField index, seq := seqField b
      initiator := initiatorField writer, extra := b.pendingSet.setWidth 32 }).count r .reclaims).modBerth p Berth.freed

/-- The overrun policy before a start that would be claimed (R22, R55, R56): the judgment is made on a FREE berth, is told
of a reclaim, and is not made under BLOCK. -/
def State.overrun (r : RingId) (index : Nat) (w : WriteTx) (judgment : Bool → State → State) (s : State) : State :=
  let b := s.ringBerth r index
  if b.state = .free then judgment false s
  else
    let counted := s.count r .overruns
    match s.rings[r].profile.overrun with
    | .block =>
      counted.refuseInWindow r
        { kind := .overrunRefused, ring := ringField r, berth := berthField index, seq := seqField b
          initiator := initiatorField w.initiator } w
    | .reclaim => judgment true (counted.reclaim r index w.initiator)

/-! ## Refusals in the window -/

/-- A write into a live berth outside the record being filled is refused (R47, R48). -/
def State.refuseLive (r : RingId) (index : Nat) (w : WriteTx) (s : State) : State :=
  s.refuseInWindow r
    { kind := .liveWriteRefused, ring := ringField r, berth := berthField index, seq := seqField (s.ringBerth r index)
      initiator := initiatorField w.initiator } w

/-- A write into a FILLING berth that the other producer claimed (R59). -/
def State.claimConflict (s : State) (r : RingId) (index : Nat) (w : WriteTx) : Bool :=
  (s.ringBerth r index).state == .filling && (s.ringBerth r index).claimant != some w.initiator

/-- A claim conflict is refused and, under strict, holds the ring (R59). -/
def State.refuseConflict (r : RingId) (index : Nat) (w : WriteTx) (s : State) : State :=
  (s.refuseInWindow r
    { kind := .claimConflict, ring := ringField r, berth := berthField index, seq := seqField (s.ringBerth r index)
      initiator := initiatorField w.initiator } w).faultHold r .claimConflict index (initiatorField w.initiator)

/-- A foreign write is refused and, under strict, holds the ring (R60). -/
def State.refuseForeign (r : RingId) (index : Nat) (w : WriteTx) (s : State) : State :=
  (s.refuseInWindow r
    { kind := .foreignWrite, ring := ringField r, berth := berthField index
      initiator := initiatorField w.initiator } w).faultHold r .foreignWrite index (initiatorField w.initiator)

/-! ## Continuations -/

/-- A continuation into the ring's current berth (R44 to R47). -/
def State.continueCurrent (r : RingId) (index offset : Nat) (w : WriteTx) (s : State) : State :=
  let b := s.ringBerth r index
  match b.state with
  | .filling =>
    if offset = b.fillCursor then (s.trackWrite r index offset w).sealIfComplete r index
    else (s.passWrite none w).damage r index .fillOrder
  | .damaged => s.passWrite none w
  | .free => s.passWrite none w
  | .settling => s.refuseLive r index w
  | .checking => s.refuseLive r index w
  | .staged => s.refuseLive r index w
  | .ready => s.refuseLive r index w

/-- A producer write that the alignment unit does not claim in HUNT, by the berth's state (R18, R19, R48). -/
def State.writeInHunt (r : RingId) (index : Nat) (w : WriteTx) (s : State) : State :=
  if (s.ringBerth r index).state.passesInHunt then s.passWrite none w else s.refuseLive r index w

/-- A producer continuation in an ACTIVE ring (R18, R44 to R48). -/
def State.continuation (r : RingId) (index offset : Nat) (w : WriteTx) (s : State) : State :=
  let t := s.rings[r].tracking
  if t.align = .hunt then s.writeInHunt r index w
  else if t.current = some index then s.continueCurrent r index offset w
  else if (s.ringBerth r index).state.live then s.refuseLive r index w
  else s.passWrite none w

end Sys2Proof.Machine
end

