-- ==== Sys2Proof/Machine/Starts.lean ====
section
/-! DEFINITION. The judgment of a start write in each alignment state (R18 to R28). A judgment's own fields and records
come before its claim, and the group unit's examination and a loss of lock after it (log entries 13 and 14). -/

namespace Sys2Proof.Machine

open Sys2Proof Sys2Proof.Config

/-- In HUNT, a good-sync start becomes the candidate (R19). -/
def State.candidateStart (r : RingId) (index : Nat) (l : Lead) (w : WriteTx) (reclaimed : Bool) (s : State) : State :=
  (s.modTracking r fun t =>
    { t with
      candidateBerth := some index, candidateSeq := some l.seq, confirmProgress := 0
      align := .confirm }).claim r ⟨index, l.seq, some l, reclaimed⟩ w

/-- A start judged in HUNT (R19). -/
def State.startInHunt (r : RingId) (index : Nat) (w : WriteTx) (s : State) : State :=
  match leadOf s.rings[r].profile.sync w with
  | some l => s.overrun r index w (fun reclaimed s => s.candidateStart r index l w reclaimed)
  | none => s.writeInHunt r index w

/-- In CONFIRM, a start that confirms the candidate, and may reach LOCKED (R20). The start that completes the confirmation is
claimed in LOCKED: if it is its own seal and fails its check, the excess check can lose the lock at once (DESIGN
CHOICE, log entry 31). -/
def State.confirmingStart (r : RingId) (index : Nat) (l : Lead) (w : WriteTx) (reclaimed : Bool) (s : State) : State :=
  let progressed := s.modTracking r fun t => { t with confirmProgress := t.confirmProgress + 1 }
  let c : Claim := ⟨index, l.seq, some l, reclaimed⟩
  if progressed.rings[r].tracking.confirmProgress = s.rings[r].profile.confirmCount then
    ((progressed.acquireLock r index l.seq w.initiator).claim r c w).examine r ⟨index, l.seq, l.mark, w.initiator⟩
  else progressed.claim r c w

/-- The start is at the producer position with this sequence expected (R20, R23). -/
def Tracking.expects (t : Tracking) (index : Nat) (q : Seq) : Bool := t.position == some index && t.expected == some q

/-- A start judged in CONFIRM (R20, R21). -/
def State.startInConfirm (r : RingId) (index : Nat) (w : WriteTx) (s : State) : State :=
  match leadOf s.rings[r].profile.sync w with
  | some l =>
    if s.rings[r].tracking.expects index l.seq then
      s.overrun r index w (fun reclaimed s => s.confirmingStart r index l w reclaimed)
    else (s.returnToHunt r).startInHunt r index w
  | none => (s.returnToHunt r).startInHunt r index w

/-- The third alignment error in a row loses the lock (R28). A third error whose own seal has already lost it by the excess
check loses it once, by EXCESS_CHECK alone (DESIGN CHOICE, log entry 28). -/
def State.loseLockAtThird (r : RingId) (s : State) : State :=
  let t := s.rings[r].tracking
  if t.align = .locked ∧ 3 ≤ t.errorCount then s.loseLock r .consecutiveErrors else s

/-- An alignment error is counted (R28). -/
def Tracking.alignmentError (t : Tracking) : Tracking := { t with errorCount := t.errorCount + 1 }

/-- In LOCKED, a good start (R23). -/
def State.goodStart (r : RingId) (index : Nat) (l : Lead) (w : WriteTx) (reclaimed : Bool) (s : State) : State :=
  ((s.modTracking r fun t => { t with errorCount := 0 }).claim r
    ⟨index, l.seq, some l, reclaimed⟩ w).examine r ⟨index, l.seq, l.mark, w.initiator⟩

/-- The error count after a sequence break, by the lock rule (R24). -/
def Tracking.breakError (rule : LockRule) (t : Tracking) : Tracking :=
  match rule with
  | .leadOnly => { t with errorCount := 0 }
  | .leadOrSequence => t.alignmentError

/-- In LOCKED, a sequence break (R24). -/
def State.breakStart (r : RingId) (index : Nat) (l : Lead) (w : WriteTx) (reclaimed : Bool) (s : State) : State :=
  let reported := ((s.modTracking r (Tracking.breakError s.rings[r].profile.lockRule)).raise
    { kind := .sequenceBreak, ring := ringField r, berth := berthField index, seq := l.seq
      initiator := initiatorField w.initiator }).count r .sequenceBreaks
  ((reported.claim r ⟨index, l.seq, some l, reclaimed⟩ w).examine r
    ⟨index, l.seq, l.mark, w.initiator⟩).loseLockAtThird r

/-- In LOCKED, a lead error (R25): the sequence recorded is the expected one. -/
def State.leadErrorStart (r : RingId) (index : Nat) (w : WriteTx) (reclaimed : Bool) (s : State) : State :=
  let x := s.rings[r].tracking.expected.getD 0
  let counted := (s.modTracking r Tracking.alignmentError).count r .leadErrors
  ((counted.claim r ⟨index, x, none, reclaimed⟩ w).examine r ⟨index, x, false, w.initiator⟩).loseLockAtThird r

/-- In LOCKED, a start at a FREE berth other than the producer position (R26). -/
def State.slip (r : RingId) (index : Nat) (w : WriteTx) (s : State) : State :=
  ((((s.passWrite none w).modTracking r Tracking.alignmentError).raise
    { kind := .slip, ring := ringField r, berth := berthField index, initiator := initiatorField w.initiator }).count r
      .slips).loseLockAtThird r

/-- In LOCKED, a start at a live berth other than the producer position (R27). -/
def State.liveStart (r : RingId) (index : Nat) (w : WriteTx) (s : State) : State :=
  ((s.modTracking r Tracking.alignmentError).refuseInWindow r
    { kind := .liveWriteRefused, ring := ringField r, berth := berthField index
      initiator := initiatorField w.initiator } w).loseLockAtThird r

/-- A start judged in LOCKED (R23 to R27). -/
def State.startInLocked (r : RingId) (index : Nat) (w : WriteTx) (s : State) : State :=
  let t := s.rings[r].tracking
  if t.position = some index then
    match leadOf s.rings[r].profile.sync w with
    | some l =>
      if t.expected = some l.seq then s.overrun r index w (fun reclaimed s => s.goodStart r index l w reclaimed)
      else s.overrun r index w (fun reclaimed s => s.breakStart r index l w reclaimed)
    | none => s.overrun r index w (fun reclaimed s => s.leadErrorStart r index w reclaimed)
  else if (s.ringBerth r index).state = .free then s.slip r index w
  else s.liveStart r index w

/-- A start write is judged in the ring's alignment state (R18). -/
def State.start (r : RingId) (index : Nat) (w : WriteTx) (s : State) : State :=
  match s.rings[r].tracking.align with
  | .hunt => s.startInHunt r index w
  | .confirm => s.startInConfirm r index w
  | .locked => s.startInLocked r index w

/-- A write by a producer of an ACTIVE ring, not refused by WEN (R18, R13). -/
def State.producerWrite (r : RingId) (index offset : Nat) (w : WriteTx) (s : State) : State :=
  if s.claimConflict r index w then s.refuseConflict r index w
  else if offset = 0 then s.start r index w
  else s.continuation r index offset w

end Sys2Proof.Machine
end

