-- ==== Sys2Proof/Machine/Roster.lean ====
section
/-! DEFINITION. The Consumer Roster (spec/05): the classification of judged reads, cursor words and cursor writes, and
the roster's part in ring commands (R78). -/

namespace Sys2Proof.Machine

open Sys2Proof Sys2Proof.Config

/-! ## Rebuilding (R78) -/

/-- A slot for a consumer ID of the profile, in the given state; VACANT without one. -/
def Slot.forConsumer (state : SlotState) (id : Option Initiator) : Slot :=
  match id with
  | some i => ⟨state, some i, none, false⟩
  | none => Slot.vacant

/-- The roster built from the profile's consumer IDs (R78). -/
def RingProfile.roster (p : RingProfile) (state : SlotState) : Vector Slot 4 :=
  mapSlots (fun k _ => Slot.forConsumer state p.consumers[k]) (Vector.replicate 4 Slot.vacant)

/-- A slot at RING_DISABLE: ATTACHED becomes DETACHED, cursor and flag cleared (R6, R5). -/
def Slot.detach (k : Slot) : Slot :=
  { k with state := if k.state = .attached then .detached else k.state, cursor := none, lapped := false }

/-- Changes one slot of a ring. -/
def State.modSlot (r : RingId) (k : SlotId) (f : Slot → Slot) (s : State) : State :=
  s.modRing r fun g => { g with roster := g.roster.set k.val (f g.roster[k]) }

/-! ## Judged reads -/

/-- A read of a berth that is not published: offered to the Hold Queue, or NOT_READY under hold limit 0 (R90, R93). -/
def State.holdOrRefuse (r : RingId) (index : Nat) (t : ReadTx) (s : State) : State :=
  if s.rings[r].profile.holdLimit = 0 then s.answer .notReady t else s.offerHold r index t

/-- A read of a FREE berth of an ACTIVE ring (the last three lines of R90). -/
def State.readFree (r : RingId) (index : Nat) (t : ReadTx) (s : State) : State :=
  let k := s.rings[r].tracking
  if k.align = .locked then
    if k.position = some index then s.holdOrRefuse r index t else s.answer .notReady t
  else s.passRead .okay t

/-- A judged read in an ACTIVE ring, its slot not lapped (R90). -/
def State.readActive (r : RingId) (index : Nat) (t : ReadTx) (s : State) : State :=
  match (s.ringBerth r index).state with
  | .ready => s.passRead .okay t
  | .damaged => s.passRead (readOutcome s.rings[r] .damaged) t
  | .free => s.readFree r index t
  | .filling => s.holdOrRefuse r index t
  | .settling => s.holdOrRefuse r index t
  | .checking => s.holdOrRefuse r index t
  | .staged => s.holdOrRefuse r index t

/-- A judged read in a FAULT_HELD ring, its slot not lapped (R91). -/
def State.readHeld (r : RingId) (index : Nat) (t : ReadTx) (s : State) : State :=
  match (s.ringBerth r index).state with
  | .ready => s.passRead .okay t
  | .damaged => s.passRead (readOutcome s.rings[r] .damaged) t
  | .free => s.answer .notReady t
  | .filling => s.answer .notReady t
  | .settling => s.answer .notReady t
  | .checking => s.answer .notReady t
  | .staged => s.answer .notReady t

/-- A read in a ring's window, judged when its reader is an attached consumer of a ring that is not DISABLED (R88 to R91). -/
def State.readWindow (r : RingId) (index : Nat) (t : ReadTx) (s : State) : State :=
  let g := s.rings[r]
  if g.profile.isProducer t.initiator then s.passRead .okay t
  else match g.attachedSlot t.initiator with
    | none => s.passRead .okay t
    | some k => match g.opState with
      | .disabled => s.passRead .okay t
      | .active => if g.roster[k].lapped then s.answer .lapped t else s.readActive r index t
      | .faultHeld => if g.roster[k].lapped then s.answer .lapped t else s.readHeld r index t

/-- A read is routed by its area: only a window read can be judged (R12, R89). -/
def State.routeRead (a : Area) (t : ReadTx) (s : State) : State :=
  match a with
  | .window r index _ => s.readWindow r index t
  | .control _ => s.passRead .okay t
  | .reportRing => s.passRead .okay t
  | .range _ => s.passRead .okay t
  | .plain => s.passRead .okay t

/-! ## Cursor words (R81 to R85) -/

/-- The judgments of R82 over one cursor word. -/
inductive CursorJudgment where
  | ordinary | cursorWrite | refused
  deriving DecidableEq, Repr

/-- The judgment of a touched cursor word (R82). -/
def State.judgeCursorWord (s : State) (offset : Nat) (w : WriteTx) (r : RingId) (k : SlotId) : CursorJudgment :=
  let slot := s.rings[r].roster[k]
  let low := covers offset w.length (cursorWord r k)
  let high := covers offset w.length (cursorWord r k + 1)
  if s.rings[r].validity ≠ .valid then .ordinary
  else match slot.state with
    | .vacant => .ordinary
    | .detached => if slot.initiator = some w.initiator then .ordinary else .refused
    | .attached =>
      if slot.initiator = some w.initiator then
        if low && high then .cursorWrite else if low || high then .refused else .ordinary
      else .refused

/-- The cursor words a write touches, in address order (R82). -/
def touchedCursorWords (offset : Nat) (w : WriteTx) : List (RingId × SlotId) :=
  allCursorWords.filter fun a => touches offset w.length (cursorWord a.1 a.2) (cursorWord a.1 a.2 + 8)

/-- The value a write carries in bytes 0-1 of a cursor word. -/
def cursorValue (offset : Nat) (w : WriteTx) (r : RingId) (k : SlotId) : Seq :=
  writtenByte w offset (cursorWord r k + 1) ++ writtenByte w offset (cursorWord r k)

/-- The CURSOR_REFUSED record of a refused word (R82). -/
def cursorRefusedRecord (offset : Nat) (w : WriteTx) (r : RingId) (k : SlotId) : Record :=
  let both := covers offset w.length (cursorWord r k) && covers offset w.length (cursorWord r k + 1)
  { kind := .cursorRefused, ring := ringField r, initiator := initiatorField w.initiator, detail := BitVec.ofNat 8 k.val
    seq := if both then cursorValue offset w r k else 0 }

/-- A berth whose release a cursor c gives: READY or DAMAGED, with a seq that c passes (R83). -/
def Berth.releasedBy (c : Seq) (b : Berth) : Bool := (b.state == .ready || b.state == .damaged) && passes c (seqField b)

/-- A cursor write's effects on the roster (R83). -/
def State.takeCursor (r : RingId) (k : SlotId) (c : Seq) (writer : Initiator) (s : State) : State :=
  let reported := match s.rings[r].roster[k].cursor with
    | some old =>
      if seqAhead old c then s.raise
        { kind := .cursorRegress, ring := ringField r, initiator := initiatorField writer, detail := BitVec.ofNat 8 k.val
          seq := c, extra := old.setWidth 32 }
      else s
    | none => s
  (reported.modSlot r k fun slot => { slot with cursor := some c, lapped := false }).releaseSlotWhere r k
    (Berth.releasedBy c)

/-- A write into the cursor area: refused whole with one record, or passed, each cursor write acting in address order
(R82). -/
def State.writeCursorArea (offset : Nat) (w : WriteTx) (s : State) : State :=
  let words := touchedCursorWords offset w
  match words.find? (fun a => s.judgeCursorWord offset w a.1 a.2 == .refused) with
  | some a => (s.refuse w).raise (cursorRefusedRecord offset w a.1 a.2)
  | none => (words.filter fun a => s.judgeCursorWord offset w a.1 a.2 == .cursorWrite).foldl
      (fun s a => s.takeCursor a.1 a.2 (cursorValue offset w a.1 a.2) w.initiator) (s.passWrite none w)

end Sys2Proof.Machine
end

