-- ==== Sys2Proof/Machine/Report.lean ====
section
/-! DEFINITION. The Report Engine (spec/11): its next write, the tail word, and snapshots. -/

namespace Sys2Proof.Machine

open Sys2Proof Sys2Proof.Config

/-! ## Snapshots (R173 to R175) -/

/-- The live counters after a copy: every counter and mask 0, but PEAK_OCCUPANCY at the ring's occupancy (R175). -/
def CounterSet.afterCopy (occupancy : Nat) : CounterSet :=
  CounterSet.zero.put .peakOccupancy (BitVec.ofNat 32 occupancy)

/-- A snapshot starts with the copy (R175). -/
def State.startSnapshot (s : State) : State :=
  let period := s.report.period + 1
  let copied := s.modReport fun e =>
    { e with
      copy := ⟨s.counters, period, s.timeBase.now⟩
      period := period
      writeOut := .writing 1 0
      lastTurn := .record }
  { copied with counters := s.rings.map fun g => CounterSet.afterCopy g.occupancy }

/-- A snapshot is requested (R174). -/
def State.requestSnapshot (s : State) : State :=
  match s.report.writeOut with
  | .idle => s.startSnapshot
  | .writing _ _ => s.modReport fun e => { e with snapshotPending := true }

/-- The period timer's expiry time for a start at `time`, or stopped for a period of 0 (R174). -/
def periodExpiry (time : Word) (period : Nat) : Option Word :=
  if period = 0 then none else some (time + BitVec.ofNat 32 (period * 1000))

/-- The snapshot period timer expires (R174). -/
def State.expirePeriod (s : State) : State :=
  let period := match s.control.device with | some d => d.snapshotPeriod | none => 0
  s.requestSnapshot.modReport fun e => { e with periodTimer := periodExpiry s.timeBase.now period }

/-- The bytes of one ring's counters in the snapshot area (R173). -/
def CounterSet.bytes (k : CounterSet) : List Byte := k.values.toList.flatMap bytesOf32

/-- The snapshot part's offset in the control block (R175). -/
def snapshotPartOffset (part : Nat) : Nat := if part = 9 then 0xA00 else 0x800 + 64 * (part - 1)

/-- The snapshot part's bytes (R173, R175): parts 1..8 the rings' counters, part 9 the masks, period number and time. -/
def SnapshotCopy.partBytes (c : SnapshotCopy) (part : Nat) : List Byte :=
  if part = 9 then
    (c.counters.toList.flatMap fun k => bytesOf32 (k.overflow.setWidth 32)) ++ bytesOf32 c.period ++ bytesOf32 c.time
  else (c.counters[part - 1]?.getD CounterSet.zero).bytes

/-! ## The engine's next write (R165, R166) -/

/-- The next record write, if one is due: REPORTS_DROPPED ahead of the buffered records, into a ring with room
(steps 3 and 4 of R165). -/
def State.dueRecord (s : State) : Option ReportWrite :=
  if s.reportRoom then
    if s.report.dropped ≠ 0 then some (.dropped s.report.dropped)
    else if s.report.buffer.isEmpty then none else some .record
  else none

/-- The next snapshot part, while a write-out has one to issue. -/
def State.duePart (s : State) : Option ReportWrite :=
  match s.report.writeOut with
  | .idle => none
  | .writing n _ => if n ≤ 9 then some (.snapshotPart n) else none

/-- The Report Engine's next write, by the first line of R165 that applies. -/
def State.reportNext (s : State) : Option ReportWrite :=
  if s.report.headOwed then some .headWord
  else match s.duePart, s.dueRecord with
    | none, due => due
    | some part, none => some part
    | some part, some due => if s.report.lastTurn = .record then some part else some due

/-- The Report Engine requests the port arbiter (R129, R165). -/
def State.reportRequests (s : State) : Bool := !s.reportOutstanding && !s.loaderWriting && s.reportNext.isSome

/-- The report head word's bytes (R162). -/
def headWordBytes (head : Nat) : List Byte := bytesOf16 (BitVec.ofNat 16 head) ++ List.replicate 6 0

/-- The REPORTS_DROPPED record (R166). -/
def droppedRecord (time count : Word) : Record :=
  { kind := .reportsDropped, initiator := 0xFF, time := time, extra := count }

/-- The address of the record place `head` (R162). -/
def State.recordPlace (s : State) : Nat :=
  match s.control.device with
  | some d => d.reportBase.toNat + 16 * s.report.head
  | none => 0

/-- The request a Report Engine write issues (R165, R166, R175). -/
def State.reportRequest (s : State) (x : ReportWrite) : Request :=
  let base := controlBase s.pins.ctlsel
  match x with
  | .headWord => ⟨.report x, BitVec.ofNat 36 (base + 0x310), 8, some (headWordBytes s.report.head)⟩
  | .snapshotPart n =>
    ⟨.report x, BitVec.ofNat 36 (base + snapshotPartOffset n), if n = 9 then 40 else 64,
      some (s.report.copy.partBytes n)⟩
  | .dropped c =>
    ⟨.report x, BitVec.ofNat 36 s.recordPlace, 16, some (droppedRecord s.timeBase.now c).bytes⟩
  | .record =>
    ⟨.report x, BitVec.ofNat 36 s.recordPlace, 16, s.report.buffer.head?.map Record.bytes⟩

/-- What a Report Engine write changes at its issue (R165, R166). -/
def ReportEngine.issued (x : ReportWrite) (e : ReportEngine) : ReportEngine :=
  match x with
  | .headWord => e
  | .snapshotPart n =>
    { e with
      lastTurn := .part
      writeOut := match e.writeOut with | .writing _ k => .writing (n + 1) k | .idle => .idle }
  | .dropped _ => { e with lastTurn := .record, dropped := 0 }
  | .record => { e with lastTurn := .record, buffer := e.buffer.tail }

/-! ## Completions (R165, R166, R175) -/

/-- The end of a snapshot write-out: SNAPSHOT_DONE, and a pending snapshot starts (R174, R175). -/
def State.endWriteOut (faults : Nat) (s : State) : State :=
  let done := (s.modReport fun e => { e with writeOut := .idle }).offer
    { kind := .snapshotDone, initiator := 0xFF, detail := BitVec.ofNat 8 faults, time := s.report.copy.time
      extra := s.report.copy.period }
  if s.report.snapshotPending then (done.modReport fun e => { e with snapshotPending := false }).startSnapshot else done

/-- A snapshot part completes (R175). -/
def State.completePart (part : Nat) (fault : Bool) (s : State) : State :=
  match s.report.writeOut with
  | .idle => s
  | .writing n k =>
    let faults := if fault then k + 1 else k
    if part = 9 then s.endWriteOut faults else s.modReport fun e => { e with writeOut := .writing n faults }

/-- Head advances over a written record, and the head word is owed (R163, R165). -/
def State.advanceHead (s : State) : State :=
  let entries := match s.control.device with | some d => d.reportEntries | none => 1
  s.modReport fun e => { e with head := (e.head + 1) % entries, headOwed := true }

/-- A Report Engine write completes (R165, R166, R175). -/
def State.completeReport (x : ReportWrite) (fault : Bool) (s : State) : State :=
  match x with
  | .headWord => if fault then s else s.modReport fun e => { e with headOwed := false }
  | .snapshotPart n => s.completePart n fault
  | .dropped c => if fault then s.modReport fun e => { e with dropped := saturatingAdd e.dropped c } else s.advanceHead
  | .record => if fault then s.modReport fun e => { e with dropped := saturatingAdd e.dropped 1 } else s.advanceHead

/-! ## The tail word (R167) -/

/-- The TAIL_INVALID record (R167). -/
def State.tailInvalidRecord (s : State) (writer : Initiator) (value : Seq) : Record :=
  { kind := .tailInvalid, initiator := initiatorField writer, seq := value
    extra := BitVec.ofNat 16 s.report.head ++ BitVec.ofNat 16 s.report.tail }

/-- The tail value is valid: it names a place from tail up to head (R167). -/
def tailValid (entries head tail t : Nat) : Bool := t < entries && unreadSpan entries t tail ≤ unreadSpan entries head tail

/-- An accepted write that touches the tail word is handed to the engine (R167). -/
def State.writeTailWord (offset : Nat) (w : WriteTx) (s : State) : State :=
  match s.control.device with
  | none => s
  | some d =>
    let low := covers offset w.length 0x318
    let high := covers offset w.length 0x319
    if low && high then
      let v : Seq := writtenByte w offset 0x319 ++ writtenByte w offset 0x318
      if tailValid d.reportEntries s.report.head s.report.tail v.toNat then s.modReport fun e => { e with tail := v.toNat }
      else s.raise (s.tailInvalidRecord w.initiator v)
    else if low || high then s.raise (s.tailInvalidRecord w.initiator 0)
    else s

end Sys2Proof.Machine
end

