-- ==== Sys2Proof/Machine/Verify.lean ====
section
/-! DEFINITION. The Verify Engine's reads, their completions and the comparison (R112 to R117). -/

namespace Sys2Proof.Machine

open Sys2Proof Sys2Proof.Config

/-- The active job (R110). -/
def VerifyEngine.active? (e : VerifyEngine) : Option VerifyJob := e.queue.head?

/-- The engine requests the port arbiter: its active job is READING and fewer than 4 reads are outstanding (R112, R129). -/
def State.verifyRequests (s : State) : Bool :=
  match s.verify.active? with
  | some j => j.phase == .reading && s.verify.outstanding < verifyOutstandingMax
  | none => false

/-- Where the record of a job's berth ends (R16, R112). -/
def State.jobEnd (s : State) (j : VerifyJob) : Nat := recordEnd ((s.berth j.berth).payload.getD 0)

/-- The index in its ring of a job's berth. -/
def State.jobIndex (s : State) (j : VerifyJob) : Nat := j.berth - s.rings[j.ring].poolBase

/-- The length of a job's next read: 64 bytes or what remains (R112). -/
def State.nextReadLength (s : State) (j : VerifyJob) : Nat := min 64 (s.jobEnd j - s.verify.cursor)

/-- The request of a job's next read (R112, R113). -/
def State.verifyRequest (s : State) (j : VerifyJob) : Request :=
  let p := s.rings[j.ring].profile
  ⟨.verify j.ring j.berth (s.jobIndex j) j.generation,
    BitVec.ofNat 36 (p.windowBase.toNat + s.jobIndex j * p.berthSize + s.verify.cursor), s.nextReadLength j, none⟩

/-- The engine after a read of its active job is issued (R112). -/
def State.verifyIssued (s : State) (j : VerifyJob) : VerifyEngine :=
  let c := s.verify.cursor + s.nextReadLength j
  { s.verify with
    queue := { j with phase := if s.jobEnd j ≤ c then .comparing else .reading } :: s.verify.queue.tail
    cursor := c
    outstanding := s.verify.outstanding + 1 }

/-- The three tests of R114 hold for the active try. -/
def State.tryPasses (s : State) (j : VerifyJob) : Bool :=
  let done := crcComplete s.verify.check
  done == tailCheckCode s.verify.tail && tailPatternOk s.rings[j.ring].profile.sync s.verify.tail &&
    done == (s.berth j.berth).check

/-- The end of a try (R114 to R116). -/
def State.endTry (j : VerifyJob) (s : State) : State :=
  let index := s.jobIndex j
  if s.tryPasses j then
    ((s.modVerify (VerifyEngine.remove j.berth)).publicationStep j.ring index).modVerify VerifyEngine.activate
  else if j.tries < s.rings[j.ring].profile.verifyTries then
    (s.count j.ring .verifyRetries).modVerify VerifyEngine.beginTry
  else (s.damage j.ring index .verifyFailed).modVerify VerifyEngine.activate

/-- An applied read's data is fed to the try (R113): `offset` is where in the berth the read began. -/
def VerifyEngine.feed (payload : BitVec 16) (offset : Nat) (data : List Byte) (e : VerifyEngine) : VerifyEngine :=
  { e with
    check := crcFeed e.check (bytesBelow (payloadEnd payload) offset data)
    tail := captureTail (tailPosition payload) offset data e.tail }

/-- An applied read completes without fault (R113): its data is fed, and the try's last read ends the try. -/
def State.applyVerifyRead (j : VerifyJob) (q : Request) (data : List Byte) (s : State) : State :=
  let offset := q.address.toNat % s.rings[j.ring].profile.berthSize
  let fed := s.modVerify (VerifyEngine.feed ((s.berth j.berth).payload.getD 0) offset (data.take q.length))
  if offset + q.length = s.jobEnd j then fed.endTry j else fed

/-- An applied read completes with MEMFAULT (R117). -/
def State.applyVerifyFault (j : VerifyJob) (s : State) : State :=
  let index := s.jobIndex j
  ((s.damage j.ring index .memoryFault).faultHold j.ring .memoryFault index 0xFF).modVerify VerifyEngine.activate

/-- A verify read completes (R113): the outstanding count falls, and a read of the active job's berth and generation is
applied. -/
def State.completeVerify (p : Nat) (generation : BitVec 8) (q : Request) (m : MemResult) (s : State) : State :=
  let lowered := s.modVerify fun e => { e with outstanding := e.outstanding - 1 }
  match s.verify.active? with
  | none => lowered
  | some j =>
    if j.berth = p ∧ j.generation = generation then
      match m with
      | .okay data => lowered.applyVerifyRead j q data
      | .memfault => lowered.applyVerifyFault j
    else lowered

end Sys2Proof.Machine
end

