-- ==== Sys2Proof/Machine/Image.lean ====
section
/-! DEFINITION. The profile image: its fields (R147), its validation (R148 to R150) and the profiles it holds. -/

namespace Sys2Proof.Machine

open Sys2Proof Sys2Proof.Config

/-! ## Fields -/

/-- An optional initiator field is in range: 0..63 or 0xFF (R147). -/
def optionalInitiatorOk (b : Byte) : Bool := b.toNat < 64 || b == 0xFF

/-- An optional initiator field's value (R147). -/
def optionalInitiator (b : Byte) : Option Initiator := if b = 0xFF then none else some (b.setWidth 6)

/-- An address field of 8 bytes as the part holds it. -/
def addressField (v : BitVec 64) : Addr := v.setWidth 36

/-- Bit k of a byte of the image. -/
def bitAt (image : List Byte) (k bit : Nat) : Bool := (byteAt image k).getLsbD bit

/-- Two extents [lo, hi) do not meet. -/
def apart (a b : Nat × Nat) : Bool := !(b.1 < a.2) || !(a.1 < b.2)

/-- Every extent of a list is clear of every other. -/
def allApart : List (Nat × Nat) → Bool
  | [] => true
  | a :: rest => rest.all (apart a) && allApart rest

/-- The value is a power of two of 64..4096 (R147). -/
def reportEntriesOk (n : Nat) : Bool := [64, 128, 256, 512, 1024, 2048, 4096].contains n

/-! ## Device profile and ranges -/

/-- The offset of write-protect range entry n (R147). -/
def rangeOffset (n : SlotId) : Nat := 0x40 + 16 * n.val

/-- The size field of range entry n; 0 means not in use (R147). -/
def rangeSize (image : List Byte) (n : SlotId) : Nat := (le32At image (rangeOffset n + 8)).toNat

/-- The extent of range entry n (R137). -/
def rangeExtent (image : List Byte) (n : SlotId) : Nat × Nat :=
  let base := (le64At image (rangeOffset n)).toNat
  (base, base + 4096 * rangeSize image n)

/-- Range entry n is not in use, or is sound in itself (R149). -/
def rangeOk (image : List Byte) (n : SlotId) : Bool :=
  rangeSize image n == 0 ||
    (rangeSize image n ≤ 65536 && (le64At image (rangeOffset n)).toNat % 4096 == 0 &&
      optionalInitiatorOk (byteAt image (rangeOffset n + 12)) && (rangeExtent image n).2 ≤ 2 ^ 36)

/-- The report ring's extent (R149). -/
def reportExtent (image : List Byte) : Nat × Nat :=
  let base := (le64At image 8).toNat
  (base, base + 16 * (le16At image 16).toNat)

/-- The control block's extent (R145). -/
def controlExtent (ctlsel : BitVec 4) : Nat × Nat := (controlBase ctlsel, controlBase ctlsel + 4096)

/-- The extents of the ranges in use. -/
def rangeExtents (image : List Byte) : List (Nat × Nat) :=
  (allSlots.filter fun n => rangeSize image n != 0).map (rangeExtent image)

/-- The areas that the device profile lays out: control block, report ring and ranges in use (R149). -/
def deviceExtents (ctlsel : BitVec 4) (image : List Byte) : List (Nat × Nat) :=
  controlExtent ctlsel :: reportExtent image :: rangeExtents image

/-- The snapshot period is 0 or 10..60000 ms (R147, R149). -/
def snapshotPeriodOk (n : Nat) : Bool := n == 0 || (10 ≤ n && n ≤ 60000)

/-- The device profile and the range entries are good (R149). -/
def deviceOk (ctlsel : BitVec 4) (image : List Byte) : Bool :=
  le16At image 0 == 0x5748 && byteAt image 2 == 1 && byteAt image 3 != 0 && (byteAt image 4).toNat < 64 &&
    optionalInitiatorOk (byteAt image 5) && (le64At image 8).toNat % 4096 == 0 && (reportExtent image).2 ≤ 2 ^ 36 &&
    reportEntriesOk (le16At image 16).toNat && snapshotPeriodOk (le16At image 18).toNat && allSlots.all (rangeOk image) &&
    allApart (deviceExtents ctlsel image)

/-- Range entry n as the part holds it: absent when not in use (R137). -/
def rangeOf (image : List Byte) (n : SlotId) : Option ProtectRange :=
  if rangeSize image n = 0 then none
  else some ⟨addressField (le64At image (rangeOffset n)), rangeSize image n,
    optionalInitiator (byteAt image (rangeOffset n + 12))⟩

/-- The device profile of the image (R147). -/
def deviceOf (image : List Byte) : DeviceProfile where
  divisor := (byteAt image 3).toNat
  controlA := (byteAt image 4).setWidth 6
  controlB := optionalInitiator (byteAt image 5)
  enableMask := byteAt image 6
  interruptEnable := bitAt image 7 0
  reportBase := addressField (le64At image 8)
  reportEntries := (le16At image 16).toNat
  snapshotPeriod := (le16At image 18).toNat
  eventMask := le32At image 20
  ranges := #v[rangeOf image 0, rangeOf image 1, rangeOf image 2, rangeOf image 3]

/-! ## Ring profiles -/

/-- The offset of ring profile r (R147). -/
def ringOffset (r : RingId) : Nat := 0x80 + 64 * r.val

/-- The consumer ID byte of slot k (R147). -/
def consumerByte (image : List Byte) (r : RingId) (k : SlotId) : Byte := byteAt image (ringOffset r + 6 + k.val)

/-- The present consumer ID bytes. -/
def presentConsumers (image : List Byte) (r : RingId) : List Byte :=
  (allSlots.map (consumerByte image r)).filter (· != 0xFF)

/-- The window extent of ring profile r (R150). -/
def windowExtent (image : List Byte) (r : RingId) : Nat × Nat :=
  let base := (le64At image (ringOffset r + 16)).toNat
  (base, base + (le16At image (ringOffset r + 14)).toNat * 2 ^ (byteAt image (ringOffset r + 13)).toNat)

/-- The berth count of ring profile r. -/
def berthCountOf (image : List Byte) (r : RingId) : Nat := (le16At image (ringOffset r + 14)).toNat

/-- The fields of ring profile r are in range (R147, R150). -/
def ringFieldsOk (image : List Byte) (r : RingId) : Bool :=
  let o := ringOffset r
  let size := (byteAt image (o + 10)).toNat
  bitAt image o 0 && (byteAt image (o + 1)).extractLsb' 0 2 != 0 && (byteAt image (o + 4)).toNat < 64 &&
    optionalInitiatorOk (byteAt image (o + 5)) && allSlots.all (fun k => optionalInitiatorOk (consumerByte image r k)) &&
    1 ≤ size && size ≤ 16 && size ≤ berthCountOf image r &&
    1 ≤ (byteAt image (o + 11)).toNat && (byteAt image (o + 11)).toNat ≤ 4 &&
    7 ≤ (byteAt image (o + 13)).toNat && (byteAt image (o + 13)).toNat ≤ 14 &&
    4 ≤ berthCountOf image r && berthCountOf image r ≤ 512

/-- The window of ring profile r is placed soundly: aligned, below 2^36, and clear of the areas given (R150). -/
def windowOk (image : List Byte) (r : RingId) (taken : List (Nat × Nat)) : Bool :=
  (windowExtent image r).1 % 2 ^ (byteAt image (ringOffset r + 13)).toNat == 0 && (windowExtent image r).2 ≤ 2 ^ 36 &&
    taken.all (apart (windowExtent image r))

/-- No producer is a consumer, and no two consumers are equal (R150). -/
def rolesOk (image : List Byte) (r : RingId) : Bool :=
  let present := presentConsumers image r
  !present.contains (byteAt image (ringOffset r + 4)) && !present.contains (byteAt image (ringOffset r + 5)) &&
    present.eraseDups.length == present.length

/-- Ring profile r is valid against the areas taken and the running sum of berth counts (R150). -/
def ringOk (image : List Byte) (r : RingId) (taken : List (Nat × Nat)) (sum : Nat) : Bool :=
  ringFieldsOk image r && windowOk image r taken && rolesOk image r && sum + berthCountOf image r ≤ poolSize

/-- The rings judged so far (R150): the pool offsets given, the areas taken and the running sum. -/
structure Verdict where
  offsets : Vector (Option Nat) 8
  taken : List (Nat × Nat)
  sum : Nat
  deriving DecidableEq, Repr

/-- No ring is valid. -/
def noOffsets : Vector (Option Nat) 8 := #v[none, none, none, none, none, none, none, none]

/-- Ring r is judged after the rings before it (R7, R150). -/
def Verdict.judge (image : List Byte) (v : Verdict) (r : RingId) : Verdict :=
  if ringOk image r v.taken v.sum then
    ⟨v.offsets.set r.val (some v.sum), windowExtent image r :: v.taken, v.sum + berthCountOf image r⟩
  else v

/-- The pool offsets of the rings the image makes valid (R7, R150). -/
def validOffsets (ctlsel : BitVec 4) (image : List Byte) : Vector (Option Nat) 8 :=
  (allRings.foldl (Verdict.judge image) ⟨noOffsets, deviceExtents ctlsel image, 0⟩).offsets

/-- The profile fields of ring profile r (R147); an alternate producer equal to the primary is none (R14, R150). -/
def ringProfileOf (image : List Byte) (r : RingId) : RingProfile :=
  let o := ringOffset r
  let alternate := optionalInitiator (byteAt image (o + 5))
  let primary : Initiator := (byteAt image (o + 4)).setWidth 6
  { windowBase := addressField (le64At image (o + 16))
    sizeExponent := (byteAt image (o + 13)).toNat
    berthCount := berthCountOf image r
    sync := le16At image (o + 2)
    primary := primary
    alternate := if alternate = some primary then none else alternate
    consumers := #v[optionalInitiator (consumerByte image r 0), optionalInitiator (consumerByte image r 1),
      optionalInitiator (consumerByte image r 2), optionalInitiator (consumerByte image r 3)]
    verify := bitAt image o 1
    strict := bitAt image o 2
    keepSearching := bitAt image o 3
    abandonOnQuiet := bitAt image o 4
    reframeOnExcess := bitAt image o 5
    poisonDamaged := bitAt image o 6
    overrun := if bitAt image o 7 then .reclaim else .block
    confirmCount := ((byteAt image (o + 1)).extractLsb' 0 2).toNat
    lockRule := if bitAt image (o + 1) 2 then .leadOrSequence else .leadOnly
    groupSize := (byteAt image (o + 10)).toNat
    publishMode := if bitAt image (o + 1) 3 then .group else .berth
    holdLimit := le16At image (o + 24)
    quietLimit := le16At image (o + 26)
    verifyTries := (byteAt image (o + 11)).toNat
    excessThreshold := (byteAt image (o + 12)).toNat }

/-! ## The judgment of an image -/

/-- The profile check word agrees with the image (R148). -/
def checkWordOk (image : List Byte) : Bool := crcOf (image.take 0x280) == le32At image 0x280

/-- The result of a load whose reads all completed (R148, R149). -/
def judgeImage (ctlsel : BitVec 4) (image : List Byte) : LoadResult :=
  if !checkWordOk image then .rejectedCheck
  else if !deviceOk ctlsel image then .rejectedDevice
  else .accepted

end Sys2Proof.Machine
end

