-- ==== Sys2Proof/Machine/Rings.lean ====
section
/-! DEFINITION. What the ring commands and a load do to a ring: enable, clear, disable, reset (R3 to R7), attach and
detach (R79, R80). -/

namespace Sys2Proof.Machine

open Sys2Proof Sys2Proof.Config

/-- The group unit's state on enable or reset (R3, R65). -/
def RingProfile.enabledGroup (p : RingProfile) : GroupState := if p.groupSize = 1 then .off else .search

/-- A ring becomes ACTIVE by enable or reset: its tracking fields and its roster (R3, R4, R78). -/
def RingRecord.enabled (g : RingRecord) : RingRecord :=
  { g with
    opState := .active
    tracking := Tracking.rest g.profile.enabledGroup
    roster := g.profile.roster .attached }

/-- A ring becomes DISABLED by RING_DISABLE (R3, R6). -/
def RingRecord.disabled (g : RingRecord) : RingRecord :=
  { g with
    opState := .disabled
    tracking := Tracking.rest .off
    roster := mapSlots (fun _ k => k.detach) g.roster }

/-- Enables a ring (R4). -/
def State.enableRing (r : RingId) (s : State) : State := s.modRing r RingRecord.enabled

/-- A berth at a clear: FREE, its generation advanced (R5, R8, R9). -/
def Berth.cleared (b : Berth) : Berth := Berth.free (b.generation + 1)

/-- A ring's own fields at a clear: occupancy, cursors, lapped flags and tail capture (R5, R62). -/
def RingRecord.cleared (g : RingRecord) : RingRecord :=
  { g with
    occupancy := 0
    tailCapture := emptyTail
    roster := mapSlots (fun _ k => { k with cursor := none, lapped := false }) g.roster }

/-- Every berth of a ring becomes FREE with its generation advanced (R5). -/
def State.clearBerths (r : RingId) (s : State) : State :=
  (s.berthIndices r).foldl (fun s i => s.modBerth (s.poolIndex r i) Berth.cleared) s

/-- A ring's holds end NOT_READY unmeasured and its verify jobs are cancelled (R5, R103, R119). -/
def State.dropRingWork (r : RingId) (s : State) : State :=
  (s.endHolds false fun h => h.ring == r).modVerify fun e => (e.removeRing r).activate

/-- The clear of a ring (R5). -/
def State.clearRing (r : RingId) (s : State) : State := ((s.dropRingWork r).clearBerths r).modRing r RingRecord.cleared

/-- The reasons a command is refused, by their codes (R158). -/
inductive Reason where
  | busy | unknown | badRing | badSlot | noProfile | ringInvalid | ringsActive | faultHeld | state
  deriving DecidableEq, Repr

/-- A reason's code (R158). -/
def Reason.code : Reason → Byte
  | .busy => 1
  | .unknown => 2
  | .badRing => 3
  | .badSlot => 4
  | .noProfile => 5
  | .ringInvalid => 6
  | .ringsActive => 7
  | .faultHeld => 8
  | .state => 9

/-- The outcome of a command: its reason for a refusal, or the state it leaves. -/
abbrev CommandOutcome := Except Reason State

/-- RING_ENABLE (R4). -/
def State.ringEnable (r : RingId) (s : State) : CommandOutcome :=
  if s.rings[r].validity ≠ .valid then .error .ringInvalid
  else match s.rings[r].opState with
    | .disabled => .ok (s.enableRing r)
    | .active => .error .state
    | .faultHeld => .error .faultHeld

/-- RING_DISABLE (R6). -/
def State.ringDisable (r : RingId) (s : State) : CommandOutcome :=
  if s.rings[r].validity ≠ .valid then .error .ringInvalid
  else match s.rings[r].opState with
    | .disabled => .error .state
    | .active => .ok ((s.clearRing r).modRing r RingRecord.disabled)
    | .faultHeld => .error .faultHeld

/-- RING_RESET (R6). -/
def State.ringReset (r : RingId) (s : State) : CommandOutcome :=
  if s.rings[r].validity ≠ .valid then .error .ringInvalid
  else match s.rings[r].opState with
    | .disabled => .error .state
    | .active => .ok ((s.clearRing r).enableRing r)
    | .faultHeld => .ok ((s.clearRing r).enableRing r)

/-- REFRAME (R32). -/
def State.reframe (r : RingId) (s : State) : CommandOutcome :=
  if s.rings[r].validity ≠ .valid then .error .ringInvalid
  else match s.rings[r].opState with
    | .disabled => .error .state
    | .faultHeld => .error .faultHeld
    | .active => match s.rings[r].tracking.align with
      | .hunt => .error .state
      | .confirm => .ok (s.loseLock r .command)
      | .locked => .ok (s.loseLock r .command)

/-- ATTACH (R79). -/
def State.attach (r : RingId) (slot : Byte) (s : State) : CommandOutcome :=
  if s.rings[r].validity ≠ .valid then .error .ringInvalid
  else match slotOfByte? slot with
    | none => .error .badSlot
    | some k => match s.rings[r].opState with
      | .disabled => .error .state
      | .faultHeld => .error .faultHeld
      | .active =>
        if s.rings[r].roster[k].state = .detached then
          .ok (s.modSlot r k fun slot => { slot with state := .attached, cursor := none, lapped := false })
        else .error .state

/-- The effects of an accepted DETACH (R80). -/
def State.detachSlot (r : RingId) (k : SlotId) (s : State) : State :=
  let released := (s.modSlot r k fun slot => { slot with state := .detached }).releaseSlotWhere r k fun _ => true
  (released.endHolds true fun h => h.ring == r && s.rings[r].roster[k].initiator == some h.read.initiator).modSlot r k
    fun slot => { slot with cursor := none, lapped := false }

/-- DETACH (R80). -/
def State.detach (r : RingId) (slot : Byte) (s : State) : CommandOutcome :=
  if s.rings[r].validity ≠ .valid then .error .ringInvalid
  else match slotOfByte? slot with
    | none => .error .badSlot
    | some k => match s.rings[r].opState with
      | .disabled => .error .state
      | .active => if s.rings[r].roster[k].state = .attached then .ok (s.detachSlot r k) else .error .state
      | .faultHeld => if s.rings[r].roster[k].state = .attached then .ok (s.detachSlot r k) else .error .state

end Sys2Proof.Machine
end

