-- ==== Sys2Proof/Machine/Load.lean ====
section
/-! DEFINITION. Loads (spec/10, 10.4): the loader's requests, the reading and writing phases, commit and rejection. -/

namespace Sys2Proof.Machine

open Sys2Proof Sys2Proof.Config

/-- A load about to begin its reading phase (R152). -/
def Load.begin (kind : LoadKind) : Load := ⟨kind, .reading, [], 0, 0, none, noOffsets, false⟩

/-- The load's step that is due to be requested: the next read, or a write not yet issued (R152, R153). -/
def Load.next (l : Load) : Option LoaderStep :=
  match l.phase with
  | .reading => if l.result.isNone && l.issued < loadReads then some (.readBlock l.issued) else none
  | .headWord issued => if issued then none else some .headWord
  | .statusWord issued => if issued then none else some .statusWord

/-- The loader's due step. -/
def State.loaderNext (s : State) : Option LoaderStep :=
  match s.control.load with
  | some l => l.next
  | none => none

/-- The valid-ring mask of the profile in force (R151). -/
def State.validMask (s : State) : Byte :=
  allRings.foldl (fun m r => if s.rings[r].validity = .valid then m ||| (1#8 <<< r.val) else m) 0

/-- The mask of the rings a load finds valid (R151). -/
def Load.verdictMask (l : Load) : Byte :=
  allRings.foldl (fun m r => if l.verdict[r].isSome then m ||| (1#8 <<< r.val) else m) 0

/-- A load result's code (R151). -/
def LoadResult.code : LoadResult → Byte
  | .accepted => 1
  | .rejectedCheck => 2
  | .rejectedDevice => 3
  | .memoryFault => 4

/-- The code of a load's result, 0 while it is not decided. -/
def Load.resultCode (l : Load) : Byte := match l.result with | some x => x.code | none => 0

/-- A kind of load's code (R151). -/
def LoadKind.code : LoadKind → Byte
  | .startUp => 1
  | .reload _ _ => 2

/-- The load status word's bytes (R151, R153). One above the load count is taken in its 4 bytes, and so wraps past
0xFFFFFFFF to 0 (DESIGN CHOICE, log entry 30). -/
def State.statusWordBytes (s : State) (l : Load) : List Byte :=
  let masks : List Byte :=
    if l.result = some .accepted then [l.verdictMask, l.verdictMask &&& (deviceOf l.image).enableMask]
    else [s.validMask, 0]
  [l.resultCode] ++ masks ++ [l.kind.code] ++ bytesOf32 (s.control.loadCount + 1)

/-- The request of a loader step (R152, R153). -/
def State.loaderRequest (s : State) (l : Load) (x : LoaderStep) : Request :=
  let base := controlBase s.pins.ctlsel
  match x with
  | .readBlock k => ⟨.loader x, BitVec.ofNat 36 (base + 64 * k), 64, none⟩
  | .headWord => ⟨.loader x, BitVec.ofNat 36 (base + 0x310), 8, some (headWordBytes 0)⟩
  | .statusWord => ⟨.loader x, BitVec.ofNat 36 (base + 0x308), 8, some (s.statusWordBytes l)⟩

/-- The load after a step is issued. -/
def Load.stepIssued (x : LoaderStep) (l : Load) : Load :=
  match x with
  | .readBlock _ => { l with issued := l.issued + 1 }
  | .headWord => { l with phase := .headWord true }
  | .statusWord => { l with phase := .statusWord true }

/-- The load after a read has completed without fault (R152): its data is kept, unless the result is decided. -/
def Load.takeRead (data : List Byte) (l : Load) : Load :=
  { l with completed := l.completed + 1, image := if l.result.isNone then l.image ++ data.take 64 else l.image }

/-- The load after a read has completed with MEMFAULT (R152). -/
def Load.takeFault (l : Load) : Load := { l with completed := l.completed + 1, result := some .memoryFault }

/-- The image is judged once its last read has completed (R148 to R150, R152), and the writing phase begins (R153). -/
def Load.judge (ctlsel : BitVec 4) (l : Load) : Load :=
  match judgeImage ctlsel l.image with
  | .accepted => { l with result := some .accepted, verdict := validOffsets ctlsel l.image, phase := .headWord false }
  | x => { l with result := some x, phase := .statusWord false }

/-- The reading phase's end (R152): after eleven good reads, or, after a fault, once no read is outstanding. -/
def Load.afterRead (ctlsel : BitVec 4) (l : Load) : Load :=
  if l.result.isSome then (if l.completed = l.issued then { l with phase := .statusWord false } else l)
  else if l.completed = loadReads then l.judge ctlsel
  else l

/-- Changes the load in progress. -/
def State.modLoad (f : Load → Load) (s : State) : State := s.modControl fun c => { c with load := c.load.map f }

/-- A profile read completes (R152). -/
def State.completeLoaderRead (m : MemResult) (s : State) : State :=
  s.modLoad fun l => Load.afterRead s.pins.ctlsel (match m with
    | .okay data => l.takeRead data
    | .memfault => l.takeFault)

/-! ## The end of a load -/

/-- One ring at the commit (step 2 of R154): the validity, profile fields and pool offset of the image, every field
cleared, DISABLED tracking values, the roster rebuilt (R3, R78). -/
def RingRecord.committed (image : List Byte) (r : RingId) (offset : Option Nat) : RingRecord where
  profile := ringProfileOf image r
  poolOffset := offset
  validity := if offset.isSome then .valid else .invalid
  opState := .disabled
  occupancy := 0
  tracking := Tracking.rest .off
  tailCapture := emptyTail
  roster :=
    if offset.isSome then (ringProfileOf image r).roster .detached else Vector.replicate 4 Slot.vacant

/-- Step 2 of R154: the rings take the image, and every pool record is FREE with its generation advanced once. -/
def State.commitRings (l : Load) (s : State) : State :=
  let dropped := allRings.foldl (fun s r => s.dropRingWork r) s
  let taken := allRings.foldl (fun s r => s.modRing r fun _ => RingRecord.committed l.image r l.verdict[r]) dropped
  { taken with pool := taken.pool.map Berth.cleared }

/-- Step 3 of R154 and R163: the report ring begins anew, the buffered records are dropped. -/
def ReportEngine.restarted (e : ReportEngine) : ReportEngine :=
  { e with
    head := 0, tail := 0, headOwed := false, buffer := []
    dropped := saturatingAdd e.dropped (BitVec.ofNat 32 e.buffer.length) }

/-- The initiator field of a load's records: its RELOAD's writer, or 0xFF (R154). -/
def LoadKind.writerField : LoadKind → Byte
  | .startUp => 0xFF
  | .reload writer _ => initiatorField writer

/-- LOAD_DONE at the end of a load (R154, R155). -/
def State.raiseLoadDone (l : Load) (s : State) : State :=
  s.raise { kind := .loadDone, initiator := l.kind.writerField, detail := l.resultCode, extra := s.control.loadCount }

/-- Step 1 of R154: the device profile takes effect, with the snapshot period (R174) and the tick divisor (R160). -/
def State.commitDevice (d : DeviceProfile) (s : State) : State :=
  ((s.modControl fun c => { c with device := some d }).modReport fun e =>
    { e with periodTimer := periodExpiry s.timeBase.now d.snapshotPeriod }).modTimeBase fun t =>
    { t with divisor := d.divisor }

/-- The rings a load enables (step 5 of R154, R2). -/
def Load.enables (l : Load) (r : RingId) : Bool := l.verdict[r].isSome && (deviceOf l.image).enableMask.getLsbD r.val

/-- The commit of an accepted load (R154). -/
def State.commit (l : Load) (s : State) : State :=
  let device := (s.commitDevice (deviceOf l.image)).commitRings l
  let restarted := (device.modReport ReportEngine.restarted).modControl fun c => { c with attention := false }
  allRings.foldl (fun s r => if l.enables r then s.enableRing r else s) (restarted.raiseLoadDone l)

/-- A rejected load (R153, R155, R163): the profile in force stays; a rejected start-up load sets the attention flag. -/
def State.reject (l : Load) (s : State) : State :=
  let owed := if l.headWritten then s.modReport fun e => { e with headOwed := true } else s
  match l.kind with
  | .startUp => owed.modControl fun c => { c with attention := true }
  | .reload _ _ => owed.raiseLoadDone l

/-- The record of the RELOAD command at the end of its load (R158, R159). -/
def State.raiseReloadDone (kind : LoadKind) (s : State) : State :=
  match kind with
  | .startUp => s
  | .reload writer slot =>
    s.raise { kind := .commandDone, initiator := initiatorField writer, extra := (slot ++ (8 : Byte)).setWidth 32 }

/-- The end of a load, at the completion of its last write (R153). The load count wraps past 0xFFFFFFFF to 0 (DESIGN CHOICE,
log entry 30). -/
def State.endLoad (l : Load) (s : State) : State :=
  let idle := s.modControl fun c => { c with loadCount := c.loadCount + 1, unit := .idle, load := none }
  (if l.result = some .accepted then idle.commit l else idle.reject l).raiseReloadDone l.kind

/-- The load after its status word write has completed: an ACCEPTED result whose write faulted becomes MEMORY_FAULT (R153). -/
def Load.statusCompleted (fault : Bool) (l : Load) : Load :=
  if fault ∧ l.result = some .accepted then { l with result := some .memoryFault } else l

/-- The load after its head word write has completed (R153). -/
def Load.headCompleted (fault : Bool) (l : Load) : Load :=
  { l with
    phase := .statusWord false
    headWritten := true
    result := if fault then some .memoryFault else l.result }

/-- A loader write completes (R153). -/
def State.completeLoaderWrite (x : LoaderStep) (fault : Bool) (s : State) : State :=
  match s.control.load with
  | none => s
  | some l => match x with
    | .readBlock _ => s
    | .headWord => s.modLoad (Load.headCompleted fault)
    | .statusWord => s.endLoad (l.statusCompleted fault)

end Sys2Proof.Machine
end

