-- ==== Sys2Proof/Machine/Arbiter.lean ====
section
/-! DEFINITION. The port arbiter (R126 to R129): the sources' requests, the rotation, and the grants. -/

namespace Sys2Proof.Machine

open Sys2Proof Sys2Proof.Config

/-- The head of the pass-through queue: the oldest waiting entry (R126). -/
def MemoryPort.waitingHead (p : MemoryPort) : Option PassEntry := p.passThrough.find? (!·.issued)

/-- A source requests the arbiter (R129). -/
def State.requests (s : State) : Source → Bool
  | .passThrough => s.port.waitingHead.isSome
  | .verify => s.verifyRequests
  | .report => s.reportRequests
  | .loader => s.loaderNext.isSome

/-- The sources in cyclic order from the one after a source (R129). -/
def Source.after : Source → List Source
  | .passThrough => [.verify, .report, .loader, .passThrough]
  | .verify => [.report, .loader, .passThrough, .verify]
  | .report => [.loader, .passThrough, .verify, .report]
  | .loader => [.passThrough, .verify, .report, .loader]

/-- The source the next grant goes to (R129). -/
def State.grantee (s : State) : Option Source :=
  if s.inFlightRoom then s.port.lastGranted.after.find? s.requests else none

/-- A request is issued: the last entry of the in-flight list (R128). -/
def State.issue (q : Request) (s : State) : State := s.modPort fun p => { p with inFlight := p.inFlight ++ [q] }

/-- The first waiting entry becomes issued (R126). -/
def issueHead : List PassEntry → List PassEntry
  | [] => []
  | e :: rest => if e.issued then e :: issueHead rest else { e with issued := true } :: rest

/-- The bytes an entry's request writes, absent for a read. -/
def PassBody.writes : PassBody → Option (List Byte)
  | .read _ => none
  | .write data _ => some data

/-- The request of a pass-through entry (R126, R128). -/
def PassEntry.request (e : PassEntry) : Request :=
  ⟨.passThrough e.initiator e.tag, e.address, e.length, e.body.writes⟩

/-- A grant to the pass-through queue issues its head (R126). -/
def State.grantPassThrough (s : State) : State :=
  match s.port.waitingHead with
  | some e => (s.modPort fun p => { p with passThrough := issueHead p.passThrough }).issue e.request
  | none => s

/-- A grant to the Verify Engine issues one read of the active job (R112). -/
def State.grantVerify (s : State) : State :=
  match s.verify.active? with
  | some j => (s.modVerify fun _ => s.verifyIssued j).issue (s.verifyRequest j)
  | none => s

/-- A grant to the Report Engine issues its next write (R165). -/
def State.grantReport (s : State) : State :=
  match s.reportNext with
  | some x => (s.modReport (ReportEngine.issued x)).issue (s.reportRequest x)
  | none => s

/-- A grant to the loader issues its next request (R152, R153). -/
def State.grantLoader (s : State) : State :=
  match s.control.load with
  | some l => match l.next with
    | some x => (s.modLoad (Load.stepIssued x)).issue (s.loaderRequest l x)
    | none => s
  | none => s

/-- A grant to a source (R129). -/
def State.grantTo (x : Source) (s : State) : State :=
  let granted := match x with
    | .passThrough => s.grantPassThrough
    | .verify => s.grantVerify
    | .report => s.grantReport
    | .loader => s.grantLoader
  granted.modPort fun p => { p with lastGranted := x }

/-- One grant of the arbiter, when the list has room and a source requests (R129). -/
def State.grant (s : State) : State :=
  match s.grantee with
  | some x => s.grantTo x
  | none => s

/-- Grants repeat while the list has room and a source requests (R129); the count bounds how many. -/
def State.grantAll : Nat → State → State
  | 0, s => s
  | n + 1, s => match s.grantee with
    | some x => State.grantAll n (s.grantTo x)
    | none => s

/-- The grants that are due: the list has no more room than its depth (R128, R129). -/
def State.grantDue (s : State) : State := State.grantAll inFlightDepth s

end Sys2Proof.Machine
end

