-- ==== Sys2Proof/Machine/Control.lean ====
section
/-! DEFINITION. The Protection Unit's judgments (R134, R135, R138, R141), the Control Unit's access checks (R146) and the
command unit (R158, R159). -/

namespace Sys2Proof.Machine

open Sys2Proof Sys2Proof.Config

/-! ## WEN (R134, R135) -/

/-- WEN, while low, guards what the write touches (R134). -/
def State.wenGuards (s : State) (a : Area) (w : WriteTx) : Bool :=
  match a with
  | .control offset => touches offset w.length 0 0x284 || touches offset w.length 0x300 0x308
  | .reportRing => false
  | .window r _ _ => s.rings[r].opState != .disabled
  | .range _ => true
  | .plain => false

/-- The WRITE_DISABLED record's fields that depend on the area (R135). -/
def State.writeDisabledRecord (s : State) (a : Area) (w : WriteTx) : Record :=
  let c : Record := { kind := .writeDisabled, initiator := initiatorField w.initiator, extra := blockField w.address }
  match a with
  | .window r index _ =>
    { c with ring := ringField r, berth := berthField index, seq := seqField (s.ringBerth r index), detail := 1 }
  | .range _ => { c with detail := 2 }
  | .control _ => { c with detail := 3 }
  | .reportRing => c
  | .plain => c

/-- The first refusal of a write-disabled episode is reported and sets the flag (R135). -/
def State.reportDisabled (a : Area) (w : WriteTx) (s : State) : State :=
  if s.episode then s else (s.raise (s.writeDisabledRecord a w)).setEpisode true

/-- The ring that WRITES_REFUSED counts a WEN refusal for (R134). -/
def State.countDisabled (a : Area) (s : State) : State :=
  match a with
  | .window r _ _ => s.count r .writesRefused
  | .control _ => s
  | .reportRing => s
  | .range _ => s
  | .plain => s

/-- A write that WEN refuses (R134, R135). -/
def State.refuseDisabled (a : Area) (w : WriteTx) (s : State) : State := ((s.refuse w).reportDisabled a w).countDisabled a

/-! ## Write-protect ranges (R138) -/

/-- The PROTECT_REFUSED record (R138, R146). -/
def protectRecord (detail : Byte) (w : WriteTx) : Record :=
  { kind := .protectRefused, initiator := initiatorField w.initiator, detail := detail, extra := blockField w.address }

/-- The allowed initiator of range n, if it is in use and has one (R137). -/
def State.rangeAllowed (s : State) (n : SlotId) : Option Initiator :=
  match s.control.device with
  | some d => match d.ranges[n] with
    | some g => g.allowed
    | none => none
  | none => none

/-- A write into a range in use (R138). -/
def State.writeRange (n : SlotId) (w : WriteTx) (s : State) : State :=
  if s.rangeAllowed n = some w.initiator then s.passWrite none w
  else (s.refuse w).raise (protectRecord (BitVec.ofNat 8 n.val) w)

/-! ## Ring windows (R1, R60, R141) -/

/-- A write into the window of a FAULT_HELD ring: refused and counted without a record (R141). -/
def State.refuseHeld (r : RingId) (w : WriteTx) (s : State) : State := (s.refuse w).count r .writesRefused

/-- A write into the window of a valid ring, not refused by WEN (R1). -/
def State.writeWindow (r : RingId) (index offset : Nat) (w : WriteTx) (s : State) : State :=
  match s.rings[r].opState with
  | .disabled => s.passWrite none w
  | .faultHeld => s.refuseHeld r w
  | .active =>
    if s.rings[r].profile.isProducer w.initiator then s.producerWrite r index offset w else s.refuseForeign r index w

/-! ## The command unit (R158, R159) -/

/-- The ring field of a command's record (R158). -/
def CommandWord.ringField (c : CommandWord) : Byte :=
  if 1 ≤ c.opcode.toNat ∧ c.opcode.toNat ≤ 6 ∧ c.ring.toNat ≤ 7 then c.ring else 0xFF

/-- A command's record (R158). -/
def CommandWord.record (kind : ReportKind) (detail : Byte) (c : CommandWord) : Record :=
  { kind := kind, ring := c.ringField, initiator := initiatorField c.writer, detail := detail
    extra := (c.slot ++ c.opcode).setWidth 32 }

/-- The four common checks, in order (R158). -/
def State.commonCheck (s : State) (c : CommandWord) : Option Reason :=
  if s.control.unit = .busy then some .busy
  else if c.opcode = 0 ∨ 8 < c.opcode.toNat then some .unknown
  else if c.opcode.toNat ≤ 6 ∧ 7 < c.ring.toNat then some .badRing
  else if c.opcode.toNat ≤ 7 ∧ s.control.device.isNone then some .noProfile
  else none

/-- RELOAD's effects at its arrival (R159). -/
def State.beginReload (c : CommandWord) (s : State) : CommandOutcome :=
  if allRings.any fun r => s.rings[r].opState != .disabled then .error .ringsActive
  else .ok (s.modControl fun u => { u with unit := .busy, load := some (Load.begin (.reload c.writer c.slot)) })

/-- A command that has passed the common checks, by its opcode (R158). -/
def State.execute (c : CommandWord) (s : State) : CommandOutcome :=
  let r := ringOfByte c.ring
  match c.opcode.toNat with
  | 1 => s.ringEnable r
  | 2 => s.ringDisable r
  | 3 => s.ringReset r
  | 4 => s.reframe r
  | 5 => s.attach r c.slot
  | 6 => s.detach r c.slot
  | 7 => .ok s.requestSnapshot
  | 8 => s.beginReload c
  | _ => .error .unknown

/-- The record a taken command ends in at its arrival: RELOAD's comes at the end of its load (R158, R159). -/
def State.commandTaken (c : CommandWord) (s : State) : State :=
  if c.opcode = 8 then s else s.raise (c.record .commandDone 0)

/-- A refused command (R158). -/
def State.commandRefused (c : CommandWord) (x : Reason) (s : State) : State := s.raise (c.record .commandRefused x.code)

/-- A write that the command unit takes as a command (R158); it clears the load attention flag whatever its outcome (R155). -/
def State.command (c : CommandWord) (s : State) : State :=
  let t := s.modControl fun u => { u with attention := false }
  match t.commonCheck c with
  | some x => t.commandRefused c x
  | none => match t.execute c with
    | .error x => t.commandRefused c x
    | .ok t' => t'.commandTaken c

/-! ## Access to the control block (R146) -/

/-- The write touches the profile area, the command word or the tail word. -/
def touchesGuarded (offset length : Nat) : Bool :=
  touches offset length 0 0x284 || touches offset length 0x300 0x308 || touches offset length 0x318 0x320

/-- The write touches an area that the part alone writes. -/
def touchesPartWritten (offset length : Nat) : Bool :=
  touches offset length 0x308 0x318 || touches offset length 0x800 0xA28

/-- The write touches the cursor area (R81). -/
def touchesCursors (offset length : Nat) : Bool := touches offset length 0x400 0x500

/-- The writer may write the profile area, the command word and the tail word (R146). -/
def State.mayControl (s : State) (i : Initiator) : Bool :=
  match s.control.device with
  | some d => d.isControl i
  | none => true

/-- The access checks refuse the write, but for the cursor words (R146). -/
def State.accessRefused (s : State) (offset : Nat) (w : WriteTx) : Bool :=
  (touchesGuarded offset w.length && !s.mayControl w.initiator) || touchesPartWritten offset w.length

/-- What an accepted write hands on at its arrival: a command and a tail word write (R146, R158, R167). -/
def State.handOn (offset : Nat) (w : WriteTx) (s : State) : State :=
  let commanded := if covers offset w.length 0x300 then s.command (commandOf offset w) else s
  if touches offset w.length 0x318 0x320 then commanded.writeTailWord offset w else commanded

/-- A write into the control block, not refused by WEN (R146). No 64-byte block holds cursor words and any other area. -/
def State.writeControl (offset : Nat) (w : WriteTx) (s : State) : State :=
  if touchesCursors offset w.length then s.writeCursorArea offset w
  else if s.accessRefused offset w then (s.refuse w).raise (protectRecord 4 w)
  else (s.passWrite none w).handOn offset w

end Sys2Proof.Machine
end

