-- ==== Sys2Proof/Machine/Upstream.lean ====
section
/-! DEFINITION. The Upstream Port (R122 to R124): acceptance in link order, the form check, and the routing of a write
to the block that owns its area. -/

namespace Sys2Proof.Machine

open Sys2Proof Sys2Proof.Config

/-- A write that WEN has not refused is routed by its area (R12). -/
def State.routeWrite (a : Area) (w : WriteTx) (s : State) : State :=
  match a with
  | .control offset => s.writeControl offset w
  | .reportRing => s.passWrite none w
  | .window r index offset => s.writeWindow r index offset w
  | .range n => s.writeRange n w
  | .plain => s.passWrite none w

/-- An accepted write of good form is judged: WEN first, then its area's owner (R134, R146). -/
def State.judgeWrite (w : WriteTx) (s : State) : State :=
  let a := s.classify w.address
  if !s.pins.wen && s.wenGuards a w then s.refuseDisabled a w else s.routeWrite a w

/-- The transaction's form is not acceptable (R123). -/
def State.malformed (s : State) (i : Initiator) (t : Tag) (a : Addr) (length : Nat) : Bool :=
  !extentOk a length || s.tagOutstanding i t

/-- The decision on an accepted transaction (R123, R124). -/
def State.decide (x : Transaction) (s : State) : State :=
  match x with
  | .read t => if s.malformed t.initiator t.tag t.address t.length then s.answer .malformed t else s.routeRead (s.classify t.address) t
  | .write w =>
    if s.malformed w.initiator w.tag w.address w.length then s.respond w.initiator w.tag .malformed []
    else s.judgeWrite w

/-- The arrival of a transaction: the grants that the event before it owes, then its decision, and the entry of the
reads it released (R100, R124, R129). -/
def State.arrive (x : Transaction) (s : State) : State :=
  let granted := s.grantDue
  granted.settleReleases (granted.decide x)

/-- The port accepts transactions from the head of the link while it may (R122); the count bounds how many. -/
def State.drain : Nat → State → State
  | 0, s => s
  | n + 1, s => match s.link with
    | [] => s
    | x :: rest => if s.accepts then State.drain n ((s.modLink fun _ => rest).arrive x) else s

/-- The end of every event: the port accepts what the event has let in (R122). -/
def State.drainLink (s : State) : State := State.drain s.link.length s

/-- The released reads that have an entry to take have taken it, and the port has accepted what it then may (R100, R122). -/
def State.entriesDue (s : State) : State := s.enterReleases.drainLink

/-- What the last event owes, made before anything else happens: entries of released reads (R100) and what the port then
accepts (R122), then the grants (R129). The commands RELEASED_READ_ENTRY and ARBITER_GRANT make them one by one, and
every other command makes first what is left of them (log entry 9). -/
def State.due (s : State) : State := s.entriesDue.grantDue

/-- A transaction is presented on the upstream link, behind those that wait there (R122). -/
def State.present (x : Transaction) (s : State) : State := (s.due.modLink fun l => l ++ [x]).drainLink

/-- An event of the part: what the last one owes, its own effect, the entry of the reads it released, and what the port
then accepts. -/
def State.event (effect : State → State) (s : State) : State :=
  let ready := s.due
  (ready.settleReleases (effect ready)).drainLink

end Sys2Proof.Machine
end

