-- ==== Sys2Proof/Machine/Port.lean ====
section
/-! DEFINITION. The Memory Port's completions, routed by origin (R130, R131). -/

namespace Sys2Proof.Machine

open Sys2Proof Sys2Proof.Config

/-- The pass-through entry a completion refers to. -/
def MemoryPort.entry? (p : MemoryPort) (i : Initiator) (t : Tag) : Option PassEntry :=
  p.passThrough.find? fun e => e.initiator == i && e.tag == t

/-- The first in-flight request leaves the list (R128). -/
def State.retire (s : State) : State := s.modPort fun p => { p with inFlight := p.inFlight.tail }

/-- A pass-through entry is freed (R126). -/
def State.freeEntry (e : PassEntry) (s : State) : State :=
  s.modPort fun p => { p with passThrough := p.passThrough.erase e }

/-- The MEMORY_FAULT record of a pass-through request whose address now lies in an area (R131, log entry 26). -/
def PassEntry.faultRecord (e : PassEntry) (a : Area) : Record :=
  let detail : Byte := match e.body with | .read _ => 1 | .write _ _ => 2
  let c : Record :=
    { kind := .memoryFault, initiator := initiatorField e.initiator, detail := detail, extra := blockField e.address }
  match a with
  | .window r index _ => { c with ring := ringField r, berth := berthField index }
  | .control _ => c
  | .reportRing => c
  | .range _ => c
  | .plain => c

/-- The MEMORY_FAULT record of a verify read (R131). -/
def verifyFaultRecord (r : RingId) (index : Nat) (a : Addr) : Record :=
  { kind := .memoryFault, ring := ringField r, berth := berthField index, initiator := 0xFF, detail := 3
    extra := blockField a }

/-- The response code of a read that completes without fault (R130). -/
def ReadOutcome.code : ReadOutcome → ResponseCode
  | .okay => .okay
  | .poisoned => .poisoned

/-- The response to a pass-through transaction at its completion (R125, R130). -/
def State.respondCompleted (e : PassEntry) (m : MemResult) (s : State) : State :=
  match m with
  | .memfault => s.respond e.initiator e.tag .memfault []
  | .okay data => match e.body with
    | .read outcome => s.respond e.initiator e.tag outcome.code (data.take e.length)
    | .write _ _ => s.respond e.initiator e.tag .okay []

/-- A pass-through completion's effects in the Memory Port: the entry is freed, its response sent, and a fault raises
MEMORY_FAULT (R126, R130, R131). -/
def State.completeEntry (e : PassEntry) (m : MemResult) (s : State) : State :=
  let responded := (s.freeEntry e).respondCompleted e m
  match m with
  | .okay _ => responded
  | .memfault => responded.raise (e.faultRecord (s.classify e.address))

/-- A SETTLING berth whose writes have all completed is handed on (R52, R111, R118). -/
def State.settled (r : RingId) (index : Nat) (s : State) : State :=
  let p := s.poolIndex r index
  let b := s.ringBerth r index
  if !s.rings[r].profile.verify then s.publicationStep r index
  else if s.verify.queue.length < verifyDepth then
    (s.modBerth p fun b => { b with state := .checking }).modVerify (VerifyEngine.enqueue r p b.generation)
  else
    (s.raise { kind := .verifySkipped, ring := ringField r, berth := berthField index, seq := seqField b
               initiator := claimantField b }).publicationStep r index

/-- One of the berth's writes has completed (R51). -/
def State.lowerOutstanding (p : Nat) (s : State) : State :=
  s.modBerth p fun b => { b with outstanding := b.outstanding - 1 }

/-- A tracked write's OKAY completion with a matching generation (R51). -/
def State.trackedOkay (r : RingId) (index : Nat) (s : State) : State :=
  let lowered := s.lowerOutstanding (s.poolIndex r index)
  match (s.ringBerth r index).state with
  | .filling => lowered
  | .settling => if (lowered.ringBerth r index).outstanding = 0 then lowered.settled r index else lowered
  | .damaged => lowered
  | .free => s
  | .checking => s
  | .staged => s
  | .ready => s

/-- A tracked write's MEMFAULT completion with a matching generation (R51, R53). -/
def State.trackedFault (r : RingId) (index : Nat) (writer : Initiator) (s : State) : State :=
  let lowered := s.lowerOutstanding (s.poolIndex r index)
  let damaged := match (s.ringBerth r index).state with
    | .filling => lowered.damage r index .memoryFault
    | .settling => lowered.damage r index .memoryFault
    | .damaged => lowered
    | .free => s
    | .checking => s
    | .staged => s
    | .ready => s
  damaged.faultHold r .memoryFault index (initiatorField writer)

/-- A tracked write's completion at the Berth Store: stale, or applied (R9, R51). -/
def State.completeTracked (x : TrackTag) (writer : Initiator) (fault : Bool) (s : State) : State :=
  let index := x.berth - s.rings[x.ring].poolBase
  if (s.berth x.berth).generation = x.generation then
    if fault then s.trackedFault x.ring index writer else s.trackedOkay x.ring index
  else s

/-- The tracking tag of an entry, if it is a tracked write. -/
def PassEntry.tracked? (e : PassEntry) : Option TrackTag :=
  match e.body with
  | .read _ => none
  | .write _ t => t

/-- The oldest in-flight request's pass-through entry, if that is its origin. -/
def State.oldestEntry (s : State) : Option PassEntry :=
  match s.port.inFlight.head? with
  | some q => match q.origin with
    | .passThrough i t => s.port.entry? i t
    | .verify _ _ _ _ => none
    | .report _ => none
    | .loader _ => none
  | none => none

/-- Memory completes a passed read or an untracked write (R130). -/
def State.completePassThrough (m : MemResult) (s : State) : State :=
  match s.oldestEntry with
  | some e => if e.tracked?.isNone then s.retire.completeEntry e m else s
  | none => s

/-- Memory completes a tracked producer write (R51, R130). -/
def State.completeTrackedWrite (fault : Bool) (s : State) : State :=
  match s.oldestEntry with
  | some e => match e.tracked? with
    | some x =>
      (s.retire.completeEntry e (if fault then .memfault else .okay [])).completeTracked x e.initiator fault
    | none => s
  | none => s

/-- Memory completes a verify read (R113, R131). -/
def State.completeVerifyRead (m : MemResult) (s : State) : State :=
  match s.port.inFlight.head? with
  | some q => match q.origin with
    | .verify r p index generation =>
      let faulted := match m with
        | .okay _ => s.retire
        | .memfault => s.retire.raise (verifyFaultRecord r index q.address)
      faulted.completeVerify p generation q m
    | .passThrough _ _ => s
    | .report _ => s
    | .loader _ => s
  | none => s

/-- Memory completes a Report Engine write (R165). -/
def State.completeReportWrite (fault : Bool) (s : State) : State :=
  match s.port.inFlight.head? with
  | some q => match q.origin with
    | .report x => s.retire.completeReport x fault
    | .passThrough _ _ => s
    | .verify _ _ _ _ => s
    | .loader _ => s
  | none => s

/-- The oldest in-flight request's loader step, if that is its origin. -/
def State.oldestStep (s : State) : Option LoaderStep :=
  match s.port.inFlight.head? with
  | some q => match q.origin with
    | .loader x => some x
    | .passThrough _ _ => none
    | .verify _ _ _ _ => none
    | .report _ => none
  | none => none

/-- Memory completes a profile read (R152). -/
def State.completeProfileRead (m : MemResult) (s : State) : State :=
  match s.oldestStep with
  | some (.readBlock _) => s.retire.completeLoaderRead m
  | some .headWord => s
  | some .statusWord => s
  | none => s

/-- Memory completes a loader write (R153). -/
def State.completeLoadWrite (fault : Bool) (s : State) : State :=
  match s.oldestStep with
  | some (.readBlock _) => s
  | some .headWord => s.retire.completeLoaderWrite .headWord fault
  | some .statusWord => s.retire.completeLoaderWrite .statusWord fault
  | none => s

end Sys2Proof.Machine
end

