-- ==== Sys2Proof/Machine/Pins.lean ====
section
/-! DEFINITION. The pins and the Time Base: DEVICE_RESET, RESET_RELEASE, WEN_FALL, WEN_RISE, TIME_BASE_TICK. -/

namespace Sys2Proof.Machine

open Sys2Proof Sys2Proof.Config

/-- The part at device reset, of the pins' present level of WEN, in which what the outside has received stays sent and
what waits to happen still waits (R132, log entries 5 and 20). -/
def State.deviceReset (s : State) : State :=
  { State.reset with pins := { State.reset.pins with wen := s.pins.wen }, responses := s.responses, pending := s.pending }

/-- RESET_N goes high: CTLSEL is sampled and the start-up load begins its reading phase (R145, R156). A pin that is high
already does not go high (log entry 10). -/
def State.release (ctlsel : BitVec 4) (s : State) : State :=
  if s.pins.resetN then s
  else (s.modPins fun p => { p with resetN := true, ctlsel := ctlsel }).modControl fun c =>
    { c with load := some (Load.begin .startUp) }

/-- The first entry in arrival order whose deadline is the present count expires (R102). -/
def State.expireFirstHold (s : State) : State :=
  match s.holds.find? s.holdDue with
  | some h => s.expireHold h
  | none => s

/-- The number of hold entries whose deadline is the present count. -/
def State.dueHolds (s : State) : Nat := (s.holds.filter s.holdDue).length

/-- The hold entries whose deadline is the present count expire in arrival order, each at an event of its own: what one
expiry owes, its record's write among it, is made before the next (R102, R129, R169). The count bounds how many. -/
def State.expireDueHolds : Nat → State → State
  | 0, s => s
  | n + 1, s => if s.holds.any s.holdDue then State.expireDueHolds n (s.event State.expireFirstHold).due else s

/-- A ring's quiet timer expires if its time is the present count (R38). -/
def State.expireQuietIfDue (r : RingId) (s : State) : State := if s.quietDue r then s.expireQuiet r else s

/-- The snapshot period timer expires if its time is the present count (R174). -/
def State.expirePeriodIfDue (s : State) : State := if s.periodDue then s.expirePeriod else s

/-- What the present microsecond still owes before the count leaves it, each expiry an event of its own (log entry 11). -/
def State.expireDue (s : State) : State :=
  (allRings.foldl (fun s r => s.event (State.expireQuietIfDue r)) (State.expireDueHolds s.dueHolds s)).event
    State.expirePeriodIfDue

/-- The next microsecond begins: the count advances and wraps, under the divisor a commit has set (R160). -/
def TimeBase.advance (t : TimeBase) : TimeBase := { t with now := t.now + 1, running := t.divisor }

/-- A microsecond ends, with all that the last event and the microsecond owe (R160, log entries 9 and 11); at device reset the count is held (R132). -/
def State.tick (s : State) : State :=
  if s.pins.resetN then s.due.expireDue.due.modTimeBase TimeBase.advance else s.due

/-- DEVICE_RESET (R132). -/
def execDeviceReset (s : State) : Host.Outcome State Fault Refusal :=
  .next s.due.deviceReset

/-- RESET_RELEASE (R145, R156). -/
def execResetRelease (ctlsel : BitVec 4) (s : State) : Host.Outcome State Fault Refusal :=
  .next (s.due.release ctlsel)

/-- WEN_FALL: the level alone changes; later writes are judged by it (R134, R135, R136). -/
def execWenFall (s : State) : Host.Outcome State Fault Refusal :=
  .next (s.due.modPins fun p => { p with wen := false })

/-- WEN_RISE: the level changes and the episode flag is cleared (R135). -/
def execWenRise (s : State) : Host.Outcome State Fault Refusal :=
  .next ((s.due.modPins fun p => { p with wen := true }).setEpisode false)

/-- TIME_BASE_TICK (R160). -/
def execTimeBaseTick (s : State) : Host.Outcome State Fault Refusal :=
  .next s.tick

end Sys2Proof.Machine
end

