-- ==== Sys2Proof/Machine/Traffic.lean ====
section
/-! DEFINITION. The upstream traffic. Each row presents its transaction on the link, and the part judges it at its arrival
(R122, R124) by what it then is: its area, its initiator's role and the ring's state (R12 to R14, log entry 8). The
judgments are Machine/Upstream.lean's State.decide and what it routes to. -/

namespace Sys2Proof.Machine

open Sys2Proof Sys2Proof.Config

/-- START_WRITE: a producer write at offset 0, judged in the ring's alignment state (R18). -/
def execStartWrite (w : WriteTx) (s : State) : Host.Outcome State Fault Refusal :=
  .next (s.present (.write w))

/-- CONTINUATION_WRITE: a producer write at another offset, against the current berth (R44). -/
def execContinuationWrite (w : WriteTx) (s : State) : Host.Outcome State Fault Refusal :=
  .next (s.present (.write w))

/-- FOREIGN_WRITE: a window write by no producer of the ring (R60). -/
def execForeignWrite (w : WriteTx) (s : State) : Host.Outcome State Fault Refusal :=
  .next (s.present (.write w))

/-- CONSUMER_READ: a judged read (R88, R90, R91). -/
def execConsumerRead (r : ReadTx) (s : State) : Host.Outcome State Fault Refusal :=
  .next (s.present (.read r))

/-- UNCHECKED_READ: a read that the roster does not judge (R89). -/
def execUncheckedRead (r : ReadTx) (s : State) : Host.Outcome State Fault Refusal :=
  .next (s.present (.read r))

/-- PLAIN_WRITE: judged against WEN and its write-protect range (R134, R138). -/
def execPlainWrite (w : WriteTx) (s : State) : Host.Outcome State Fault Refusal :=
  .next (s.present (.write w))

/-- CURSOR_WRITE: judged word by word; a cursor write releases berths (R82, R83). -/
def execCursorWrite (w : WriteTx) (s : State) : Host.Outcome State Fault Refusal :=
  .next (s.present (.write w))

/-- TAIL_WORD_WRITE: access-checked, then handed to the Report Engine (R146, R167). -/
def execTailWordWrite (w : WriteTx) (s : State) : Host.Outcome State Fault Refusal :=
  .next (s.present (.write w))

/-- CONTROL_BLOCK_WRITE: access-checked, then passed (R146). -/
def execControlBlockWrite (w : WriteTx) (s : State) : Host.Outcome State Fault Refusal :=
  .next (s.present (.write w))

end Sys2Proof.Machine
end

