-- ==== Sys2Proof/Machine/Commands.lean ====
section
/-! DEFINITION. The commands of R158. A command is a write of the command word, taken at the write's arrival after the
write's own judgment (R146); the opcode is read from the write's bytes (Machine/Control.lean, State.command; log entry 8). -/

namespace Sys2Proof.Machine

open Sys2Proof Sys2Proof.Config

/-- RING_ENABLE: a write of the command word (R4). -/
def execRingEnable (w : WriteTx) (s : State) : Host.Outcome State Fault Refusal :=
  .next (s.present (.write w))

/-- RING_DISABLE: a write of the command word (R6). -/
def execRingDisable (w : WriteTx) (s : State) : Host.Outcome State Fault Refusal :=
  .next (s.present (.write w))

/-- RING_RESET: a write of the command word (R6). -/
def execRingReset (w : WriteTx) (s : State) : Host.Outcome State Fault Refusal :=
  .next (s.present (.write w))

/-- REFRAME: a write of the command word (R32). -/
def execReframe (w : WriteTx) (s : State) : Host.Outcome State Fault Refusal :=
  .next (s.present (.write w))

/-- ATTACH: a write of the command word (R79). -/
def execAttach (w : WriteTx) (s : State) : Host.Outcome State Fault Refusal :=
  .next (s.present (.write w))

/-- DETACH: a write of the command word (R80). -/
def execDetach (w : WriteTx) (s : State) : Host.Outcome State Fault Refusal :=
  .next (s.present (.write w))

/-- SNAPSHOT: a write of the command word (R174). -/
def execSnapshot (w : WriteTx) (s : State) : Host.Outcome State Fault Refusal :=
  .next (s.present (.write w))

/-- RELOAD: a write of the command word (R159). -/
def execReload (w : WriteTx) (s : State) : Host.Outcome State Fault Refusal :=
  .next (s.present (.write w))

/-- UNKNOWN_COMMAND: a write of the command word with an opcode outside 1..8 (R158). -/
def execUnknownCommand (w : WriteTx) (s : State) : Host.Outcome State Fault Refusal :=
  .next (s.present (.write w))

end Sys2Proof.Machine
end

