-- ==== Sys2Proof/Machine/Completions.lean ====
section
/-! DEFINITION. The Memory Port's events: grants, the entry of released reads, and completions. Memory completes in issue
order (R128); a completion that is not the oldest request's changes nothing (log entry 6). -/

namespace Sys2Proof.Machine

open Sys2Proof Sys2Proof.Config

/-- RELEASED_READ_ENTRY: the oldest released read takes a free pass-through entry, and the port accepts what it then may
(R100, R122). -/
def execReleasedReadEntry (s : State) : Host.Outcome State Fault Refusal :=
  .next s.enterReleased.drainLink

/-- ARBITER_GRANT: the next of the grants that are due (R129), after the entries that are (R100). -/
def execArbiterGrant (s : State) : Host.Outcome State Fault Refusal :=
  .next s.entriesDue.grant

/-- PASS_THROUGH_COMPLETION (R130, R131). -/
def execPassThroughCompletion (m : MemResult) (s : State) : Host.Outcome State Fault Refusal :=
  .next (s.event (State.completePassThrough m))

/-- TRACKED_WRITE_COMPLETION (R51 to R53, R130). -/
def execTrackedWriteCompletion (fault : Bool) (s : State) : Host.Outcome State Fault Refusal :=
  .next (s.event (State.completeTrackedWrite fault))

/-- VERIFY_READ_COMPLETION (R113 to R117). -/
def execVerifyReadCompletion (m : MemResult) (s : State) : Host.Outcome State Fault Refusal :=
  .next (s.event (State.completeVerifyRead m))

/-- REPORT_WRITE_COMPLETION (R165, R166, R175). -/
def execReportWriteCompletion (fault : Bool) (s : State) : Host.Outcome State Fault Refusal :=
  .next (s.event (State.completeReportWrite fault))

/-- LOADER_READ_COMPLETION (R152). -/
def execLoaderReadCompletion (m : MemResult) (s : State) : Host.Outcome State Fault Refusal :=
  .next (s.event (State.completeProfileRead m))

/-- LOADER_WRITE_COMPLETION (R153 to R155). -/
def execLoaderWriteCompletion (fault : Bool) (s : State) : Host.Outcome State Fault Refusal :=
  .next (s.event (State.completeLoadWrite fault))

end Sys2Proof.Machine
end

