-- ==== Sys2Proof/Machine/Expiries.lean ====
section
/-! DEFINITION. The expiries on the Time Base. A timer that does not expire at the present count changes nothing (log
entries 10 and 11). -/

namespace Sys2Proof.Machine

open Sys2Proof Sys2Proof.Config

/-- The due hold entry of a read expires (R102). -/
def State.expireHoldOf (initiator : Initiator) (tag : Tag) (s : State) : State :=
  match s.holds.find? (fun h => s.holdDue h && h.read.initiator == initiator && h.read.tag == tag) with
  | some h => s.expireHold h
  | none => s

/-- QUIET_TIMER_EXPIRY (R38). -/
def execQuietTimerExpiry (ring : RingId) (s : State) : Host.Outcome State Fault Refusal :=
  .next (s.event (State.expireQuietIfDue ring))

/-- HOLD_DEADLINE (R102). -/
def execHoldDeadline (initiator : Initiator) (tag : Tag) (s : State) : Host.Outcome State Fault Refusal :=
  .next (s.event (State.expireHoldOf initiator tag))

/-- PERIOD_TIMER_EXPIRY (R174). -/
def execPeriodTimerExpiry (s : State) : Host.Outcome State Fault Refusal :=
  .next (s.event State.expirePeriodIfDue)

end Sys2Proof.Machine
end

