-- ==== Sys2Proof/Machine/Dispatch.lean ====
section
/-! DEFINITION. The meaning of every command: one arm per constructor of Instr. -/

namespace Sys2Proof.Machine

open Sys2Proof

def exec (i : Instr) (s : State) : Host.Outcome State Fault Refusal :=
  match i with
  | .deviceReset => Sys2Proof.Machine.execDeviceReset s
  | .resetRelease ctlsel => Sys2Proof.Machine.execResetRelease ctlsel s
  | .wenFall => Sys2Proof.Machine.execWenFall s
  | .wenRise => Sys2Proof.Machine.execWenRise s
  | .timeBaseTick => Sys2Proof.Machine.execTimeBaseTick s
  | .startWrite w => Sys2Proof.Machine.execStartWrite w s
  | .continuationWrite w => Sys2Proof.Machine.execContinuationWrite w s
  | .foreignWrite w => Sys2Proof.Machine.execForeignWrite w s
  | .consumerRead r => Sys2Proof.Machine.execConsumerRead r s
  | .uncheckedRead r => Sys2Proof.Machine.execUncheckedRead r s
  | .plainWrite w => Sys2Proof.Machine.execPlainWrite w s
  | .cursorWrite w => Sys2Proof.Machine.execCursorWrite w s
  | .tailWordWrite w => Sys2Proof.Machine.execTailWordWrite w s
  | .controlBlockWrite w => Sys2Proof.Machine.execControlBlockWrite w s
  | .ringEnable w => Sys2Proof.Machine.execRingEnable w s
  | .ringDisable w => Sys2Proof.Machine.execRingDisable w s
  | .ringReset w => Sys2Proof.Machine.execRingReset w s
  | .reframe w => Sys2Proof.Machine.execReframe w s
  | .attach w => Sys2Proof.Machine.execAttach w s
  | .detach w => Sys2Proof.Machine.execDetach w s
  | .snapshot w => Sys2Proof.Machine.execSnapshot w s
  | .reload w => Sys2Proof.Machine.execReload w s
  | .arbiterGrant => Sys2Proof.Machine.execArbiterGrant s
  | .releasedReadEntry => Sys2Proof.Machine.execReleasedReadEntry s
  | .passThroughCompletion m => Sys2Proof.Machine.execPassThroughCompletion m s
  | .trackedWriteCompletion fault => Sys2Proof.Machine.execTrackedWriteCompletion fault s
  | .verifyReadCompletion m => Sys2Proof.Machine.execVerifyReadCompletion m s
  | .reportWriteCompletion fault => Sys2Proof.Machine.execReportWriteCompletion fault s
  | .loaderReadCompletion m => Sys2Proof.Machine.execLoaderReadCompletion m s
  | .loaderWriteCompletion fault => Sys2Proof.Machine.execLoaderWriteCompletion fault s
  | .quietTimerExpiry ring => Sys2Proof.Machine.execQuietTimerExpiry ring s
  | .holdDeadline initiator tag => Sys2Proof.Machine.execHoldDeadline initiator tag s
  | .periodTimerExpiry => Sys2Proof.Machine.execPeriodTimerExpiry s
  | .unknownCommand w => Sys2Proof.Machine.execUnknownCommand w s

end Sys2Proof.Machine
end

