-- ==== Sys2Proof/Safety.lean ====
section
/-! DEFINITION. The terms the statements use: what a state in order is (the invariants), when the upstream port takes
a transaction at once and what it is then, and the values some rules give. -/

namespace Sys2Proof.Machine

open Sys2Proof Sys2Proof.Config

/-! ## Invariants -/

/-- Every store holds no more than its places: R96, R110, R126, R128, R162. -/
abbrev State.withinCapacity (s : State) : Prop :=
  s.port.passThrough.length ≤ passThroughDepth ∧ s.port.inFlight.length ≤ inFlightDepth ∧
    s.holds.length ≤ holdPlaces ∧ s.verify.queue.length ≤ verifyDepth ∧ s.verify.outstanding ≤ verifyOutstandingMax ∧
    s.report.buffer.length ≤ recordBufferDepth

/-- The port has accepted from the link what it may (R122). -/
abbrev State.linkSettled (s : State) : Prop := s.link = [] ∨ s.accepts = false

/-- No two outstanding transactions, in the Hold Queue or the pass-through queue, share initiator and tag (R96, R123). -/
abbrev State.tagsDistinct (s : State) : Prop :=
  (s.holds.map (fun h => (h.read.initiator, h.read.tag)) ++
    s.port.passThrough.map (fun e => (e.initiator, e.tag))).Nodup

/-- No read entry, no acceptance and no grant is due: what happens next happens at once (R100, R122, R129). -/
abbrev State.nothingDue (s : State) : Prop :=
  s.linkSettled ∧ s.grantee = none ∧ (s.releasedWaits = false ∨ s.passThroughFree = false)

/-- Two runs of the pool do not meet. -/
def runsApart (a m b n : Nat) : Prop := a + m ≤ b ∨ b + n ≤ a

/-- The pool offsets a load has found give its rings runs inside the pool, no two of which meet, and group sizes in 1..16
(R7, R147, R150). -/
def Load.verdictSound (l : Load) : Prop :=
  ∀ r : RingId, ∀ o : Nat, l.verdict[r] = some o →
    o + berthCountOf l.image r ≤ poolSize ∧ 1 ≤ (ringProfileOf l.image r).groupSize ∧
      (ringProfileOf l.image r).groupSize ≤ 16 ∧
      ∀ q : RingId, ∀ x : Nat, q ≠ r → l.verdict[q] = some x →
        runsApart o (berthCountOf l.image r) x (berthCountOf l.image q)

/-- A load in progress has given no offsets before its result, and sound ones after it. -/
def Load.sound (l : Load) : Prop := (l.result = none → l.verdict = noOffsets) ∧ l.verdictSound

/-- The ring has a window. -/
abbrev State.isValid (s : State) (r : RingId) : Prop := s.rings[r].validity = .valid

/-- The ring's run of the pool lies inside it, and its group size is one that a profile may give (R7, R147). -/
abbrev State.ringSound (s : State) (r : RingId) : Prop :=
  s.rings[r].poolBase + s.rings[r].profile.berthCount ≤ poolSize ∧ 1 ≤ s.rings[r].profile.groupSize ∧
    s.rings[r].profile.groupSize ≤ 16

/-- The runs of the valid rings lie inside the pool and do not meet, their group sizes lie in 1..16, and a load in progress
will keep it so (R7, R147). -/
def State.runsSound (s : State) : Prop :=
  (∀ r : RingId, s.isValid r → s.ringSound r) ∧
    (∀ r q : RingId, q ≠ r → s.isValid r → s.isValid q →
      runsApart s.rings[r].poolBase s.rings[r].profile.berthCount s.rings[q].poolBase s.rings[q].profile.berthCount) ∧
    ∀ l : Load, s.control.load = some l → l.sound

/-- A FILLING berth of a valid ring is the current berth of an ACTIVE ring that is not in HUNT (R1, R10, R29). -/
def State.fillingIsCurrent (s : State) : Prop :=
  ∀ r : RingId, ∀ i : Nat, s.isValid r → i < s.rings[r].profile.berthCount → (s.ringBerth r i).state = .filling →
    s.rings[r].tracking.current = some i ∧ s.rings[r].opState = .active ∧ s.rings[r].tracking.align ≠ .hunt

/-! ## Arrivals -/

/-- The port takes a transaction presented now at once: nothing waits before it, acceptance is open (R122), and no grant is
due before it (R129). -/
abbrev State.portOpen (s : State) : Prop := s.link = [] ∧ s.accepts = true ∧ s.grantee = none

/-- A write is taken at its presentation, is of good form (R123), and carries as many bytes as its length says. -/
abbrev State.takesForm (s : State) (w : WriteTx) : Prop :=
  s.portOpen ∧ s.malformed w.initiator w.tag w.address w.length = false ∧ w.data.length = w.length

/-- A write is taken that WEN does not refuse, WEN being high or the write touching nothing that it guards: it is judged by
what its area's owner makes of it (R134). -/
abbrev State.takesWrite (s : State) (w : WriteTx) : Prop :=
  s.takesForm w ∧ (s.pins.wen = true ∨ s.wenGuards (s.classify w.address) w = false)

/-- A read is taken at its presentation and is of good form. -/
abbrev State.takesRead (s : State) (t : ReadTx) : Prop :=
  s.portOpen ∧ s.malformed t.initiator t.tag t.address t.length = false

/-- The area is a berth of a ring's window. -/
def Area.isBerth (r : RingId) (index : Nat) : Area → Bool
  | .window q i _ => q == r && i == index
  | .control _ => false
  | .reportRing => false
  | .range _ => false
  | .plain => false

/-- A judged read of this berth is taken: the ring is ACTIVE or FAULT_HELD and the reader is the attached consumer of
slot k (R89). -/
abbrev State.takesJudgedRead (s : State) (t : ReadTx) (r : RingId) (index : Nat) (k : SlotId) : Prop :=
  s.takesRead t ∧ (s.classify t.address).isBerth r index = true ∧ s.rings[r].profile.isProducer t.initiator = false ∧
    s.rings[r].attachedSlot t.initiator = some k

/-- A read of this area is one that the roster does not judge (R89). -/
def State.unjudged (s : State) (t : ReadTx) : Area → Bool
  | .window r _ _ =>
    s.rings[r].opState == .disabled || s.rings[r].profile.isProducer t.initiator ||
      (s.rings[r].attachedSlot t.initiator).isNone
  | .control _ => true
  | .reportRing => true
  | .range _ => true
  | .plain => true

/-- A write of a producer of an ACTIVE ring is taken and falls at this offset of this berth, which the other producer is
not filling (R13, R18). -/
abbrev State.takesProducerWrite (s : State) (w : WriteTx) (r : RingId) (index offset : Nat) : Prop :=
  s.takesWrite w ∧ s.classify w.address = .window r index offset ∧ s.rings[r].opState = .active ∧
    s.rings[r].profile.isProducer w.initiator = true ∧ s.claimConflict r index w = false

/-- A write into the control block is taken that WEN does not refuse. -/
abbrev State.takesControlWrite (s : State) (w : WriteTx) (offset : Nat) : Prop :=
  s.takesWrite w ∧ s.classify w.address = .control offset

/-- A write reaches the command unit as the command with this opcode: it begins at the command word and touches no other
word of the control block, its writer may give commands, and the unit is not BUSY (R146, R158). -/
abbrev State.takesCommand (s : State) (w : WriteTx) (opcode : Byte) : Prop :=
  s.takesControlWrite w 0x300 ∧ w.length ≤ 8 ∧ s.mayControl w.initiator = true ∧ s.control.unit ≠ .busy ∧
    (commandOf 0x300 w).opcode = opcode

/-- A ring command for a ring with a window reaches the command unit, with a profile in force (R158). -/
abbrev State.takesRingCommand (s : State) (w : WriteTx) (opcode : Byte) (r : RingId) : Prop :=
  s.takesCommand w opcode ∧ (commandOf 0x300 w).ring = ringField r ∧ s.control.device.isSome = true ∧
    s.rings[r].validity = .valid

/-- What every command's write does beside the command's outcome: it goes on to memory, and the load attention flag is
cleared (R155, R158). -/
def State.commanded (w : WriteTx) (s : State) : State :=
  (s.passWrite none w).modControl fun u => { u with attention := false }

/-- The COMMAND_DONE record of a command (R158). -/
def commandDone (w : WriteTx) (ring opcode : Byte) : Record :=
  { kind := .commandDone, ring := ring, initiator := initiatorField w.initiator
    extra := ((commandOf 0x300 w).slot ++ opcode).setWidth 32 }

/-! ## Values the rules give -/

/-- The quiet timer after a tracked write (R37). -/
def State.quietTimerAfter (s : State) (r : RingId) : Option Word :=
  if s.rings[r].quietRuns then some (s.timeBase.now + BitVec.ofNat 32 (s.rings[r].profile.quietLimit.toNat * 1000))
  else s.rings[r].tracking.quietTimer

/-- What a clear leaves of ring r: every berth FREE with its generation advanced and every other berth as it was, no entry and
no job of the ring, its entries answered NOT_READY in arrival order, the other rings' jobs in their order, of which one that
comes to the head begins its first try, occupancy 0, counters as they were (R5, R112, R119). -/
def State.clearedTo (s : State) (r : RingId) (t : State) : Prop :=
  (∀ i : Nat, i < s.rings[r].profile.berthCount →
      t.ringBerth r i = Berth.free ((s.ringBerth r i).generation + 1)) ∧
    t.holds = s.holds.filter (fun h => h.ring != r) ∧
    t.responses = s.responses ++ (s.holds.filter fun h => h.ring == r).map
      (fun h => ⟨h.read.initiator, h.read.tag, .notReady, []⟩) ∧
    (∀ p : Nat, (∀ i : Nat, i < s.rings[r].profile.berthCount → p ≠ s.poolIndex r i) → t.berth p = s.berth p) ∧
    (∀ (j : VerifyJob) (rest : List VerifyJob), s.verify.queue.filter (·.ring != r) = j :: rest → j.phase = .waiting →
      t.verify = { s.verify with
        queue := { j with tries := j.tries + 1, phase := .reading } :: rest
        cursor := 0, check := crcInit, tail := emptyTail }) ∧
    ((∀ j, (s.verify.queue.filter (·.ring != r)).head? = some j → j.phase ≠ .waiting) →
      t.verify = { s.verify with queue := s.verify.queue.filter (·.ring != r) }) ∧
    t.rings[r].occupancy = 0 ∧ t.rings[r].tailCapture = emptyTail ∧
    (∀ k : SlotId, t.rings[r].roster[k].cursor = none ∧ t.rings[r].roster[k].lapped = false) ∧
    t.counters = s.counters ∧ (∀ q : RingId, q ≠ r → t.rings[q] = s.rings[q])

/-- A berth after a start write of good lead, before a seal: the values a claim gives it, and what the write itself adds
(R41). -/
def startedBerth (w : WriteTx) (l : Lead) (generation : BitVec 8) : Berth where
  state := .filling
  generation := generation
  seq := some l.seq
  claimant := some w.initiator
  fillCursor := w.length
  payload := some l.payload
  code := some l.code
  mark := some l.mark
  check := crcFeed crcInit (bytesBelow (payloadEnd l.payload) 0 w.data)
  outstanding := 1
  damage := none
  pendingSet := 0

/-- The entry that a passed write takes. -/
def writeEntry (w : WriteTx) (tracked : Option TrackTag) : PassEntry :=
  ⟨w.initiator, w.tag, w.address, w.length, .write w.data tracked, false⟩

/-- The entry that a passed read takes. -/
def readEntry (t : ReadTx) (outcome : ReadOutcome) : PassEntry :=
  ⟨t.initiator, t.tag, t.address, t.length, .read outcome, false⟩

/-- What a berth of ring record `g` is once it has become READY or DAMAGED (`x`) and its pending set is formed: FREE when
the set is formed empty (R40, R64, R86). -/
def RingRecord.published (g : RingRecord) (x : BerthState) (b : Berth) : Berth :=
  if g.pendingFor (seqField b) = 0 then Berth.free b.generation
  else { b with state := x, pendingSet := g.pendingFor (seqField b) }

/-- The BERTH_DAMAGED record of a berth that is damaged (R40). -/
def damagedRecord (r : RingId) (index : Nat) (cause : DamageCause) (b : Berth) : Record :=
  { kind := .berthDamaged, ring := ringField r, berth := berthField index, seq := seqField b
    initiator := claimantField b, detail := cause.code }

/-- The state in which an abandonment of ring r's current berth has raised its record, if that berth is FILLING. -/
def State.abandonReported (s : State) (r : RingId) : State :=
  match s.fillingCurrent r with
  | some i => s.raise (damagedRecord r i ((s.ringBerth r i).damage.getD .abandoned) (s.ringBerth r i))
  | none => s

/-- The responses of entries that end without data (R103). -/
def notReadyResponses (ended : List HoldPlace) : List Response :=
  ended.map fun h => ⟨h.read.initiator, h.read.tag, .notReady, []⟩

/-- The pool record is ring r's current berth, and it is FILLING: a loss of lock or a fault hold abandons it. -/
def State.abandons (s : State) (r : RingId) (p : Nat) : Bool := (s.fillingCurrent r).any fun i => p == s.poolIndex r i

/-- The pool record is a STAGED berth of ring r: a loss of lock or a fault hold publishes it. -/
def State.publishes (s : State) (r : RingId) (p : Nat) : Bool :=
  (s.berth p).state == .staged && (s.berthIndices r).any fun i => p == s.poolIndex r i

/-- The entry is one of ring r that a loss of lock or a fault hold ends: it waits on a berth that is neither READY nor
DAMAGED, nor made so by the abandonment or the publication (R103). -/
def State.endsHold (s : State) (r : RingId) (h : HoldPlace) : Bool :=
  h.waiting && s.unreadyHold r h && !s.abandons r h.berth && !s.publishes r h.berth

/-- The entries of ring r that a loss of lock or a fault hold ends, in arrival order (step 4 of R30 and of R140). -/
def State.endedHolds (s : State) (r : RingId) : List HoldPlace := s.holds.filter (s.endsHold r)

/-- A place as a loss of lock or a fault hold leaves it: an entry on the abandoned berth or on a published one is released
with the outcome of its berth, any other place stays (R99, R103). -/
def State.closedHold (s : State) (r : RingId) (h : HoldPlace) : HoldPlace :=
  if h.waiting && s.abandons r h.berth then
    { h with released := some (if s.rings[r].profile.poisonDamaged then .poisoned else .okay) }
  else if h.waiting && s.publishes r h.berth then { h with released := some .okay }
  else h

/-- What a loss of lock and an entry to FAULT_HELD do to the berths and the entries of ring r (steps 2 to 4 of R30 and of
R140): the FILLING current berth is abandoned and every STAGED berth is READY, which releases the entries on them; the
other entries of the ring that wait on berths neither READY nor DAMAGED leave the Hold Queue and are answered NOT_READY
in arrival order. -/
def State.closedOut (s : State) (r : RingId) (t : State) : Prop :=
  (∀ i : Nat, s.fillingCurrent r = some i →
      t.ringBerth r i = s.rings[r].published .damaged
        { s.ringBerth r i with damage := some ((s.ringBerth r i).damage.getD .abandoned) }) ∧
    (∀ i : Nat, i < s.rings[r].profile.berthCount → (s.ringBerth r i).state = .staged →
      t.ringBerth r i = s.rings[r].published .ready (s.ringBerth r i)) ∧
    t.holds = (s.holds.filter fun h => !s.endsHold r h).map (s.closedHold r) ∧
    t.responses = s.responses ++ notReadyResponses (s.endedHolds r)

/-- What an entry to FAULT_HELD leaves of a state, for a cause that concerned berth `index` (R34, R140): the ring is closed
out, the tracking fields keep their values but for the quiet timer, which stops, and FAULT_HELD is raised with the
number of entries that ended. -/
def State.heldTo (s : State) (r : RingId) (cause : Byte) (index : Nat) (initiator : Byte) (t : State) : Prop :=
  s.closedOut r t ∧ t.rings[r].opState = .faultHeld ∧
    t.rings[r].tracking = { s.rings[r].tracking with quietTimer := none } ∧ t.rings[r].roster = s.rings[r].roster ∧
    t.report = ((s.abandonReported r).raise
      { kind := .faultHeld, ring := ringField r, berth := berthField index, seq := seqField (t.ringBerth r index)
        initiator := initiator, detail := cause, extra := BitVec.ofNat 32 (s.endedHolds r).length }).report ∧
    (∀ c : Counter, c ≠ .berthsDamaged → c ≠ .peakHoldTime → t.counter r c = s.counter r c) ∧
    (∀ p : Nat, (t.berth p).generation = (s.berth p).generation) ∧ (∀ q : RingId, q ≠ r → t.rings[q] = s.rings[q]) ∧
    t.verify = s.verify ∧ t.port = s.port ∧ t.control = s.control

/-- The state in which a start write of ring r that would be claimed is judged: its berth is FREE, or has been taken from
its old record under RECLAIM (R22, R55, R57). -/
def State.overrunTaken (s : State) (r : RingId) (b : Nat) (writer : Initiator) : State :=
  if (s.ringBerth r b).state = .free then s else (s.count r .overruns).reclaim r b writer

/-- The claim of berth b by a start write with a good lead, as far as the length check and a seal (steps 2 to 6 of R41,
R29, R37, R39), from the state in which the judgment and the abandonment stand: a reclaimed berth was counted already. -/
def State.claimedTo (j : State) (r : RingId) (b : Nat) (l : Lead) (reclaimed : Bool) (w : WriteTx) (u : State) : Prop :=
  let g := j.rings[r]
  let p := j.poolIndex r b
  let generation := (j.ringBerth r b).generation + 1
  u.berth p = startedBerth w l generation ∧ (∀ q : Nat, q ≠ p → u.berth q = j.berth q) ∧
    u.rings[r] =
      { g with
        occupancy := if reclaimed then g.occupancy else g.occupancy + 1
        tailCapture := captureTail (tailPosition l.payload) 0 w.data emptyTail
        tracking := { g.tracking with
          current := some b, position := some ((b + 1) % g.profile.berthCount), expected := some (l.seq + 1)
          quietTimer := j.quietTimerAfter r } } ∧
    (∀ q : RingId, q ≠ r → u.rings[q] = j.rings[q]) ∧
    u.port = { j.port with passThrough := j.port.passThrough ++ [writeEntry w (some ⟨r, p, generation⟩)] } ∧
    u.counters =
      (if reclaimed then j else j.raisePeak r .peakOccupancy (BitVec.ofNat 32 (g.occupancy + 1))).counters ∧
    u.responses = j.responses ∧ u.holds = j.holds ∧ u.verify = j.verify ∧ u.control = j.control ∧ u.report = j.report ∧
    u.episode = j.episode ∧ u.link = j.link

end Sys2Proof.Machine
end

