-- ==== Sys2Proof/Certificates/Slice0/Obligations.lean ====
section
/-! DEFINITION. The statements for the provers. `exec i s = .next t` says that the command i completes at s and what it
leaves: where t is written as an update of s, every field that the update does not name is as it was. -/

open Sys2Proof Sys2Proof.Machine Sys2Proof.Config

/-! ## The step, the queue, reset -/

/-- A step of a state with command c at the front of its queue is exec of c on the state with the queue's rest. -/
def Obligations.StepRunsTheFrontCommand : Prop :=
  ∀ (c : Instr) (rest : List Instr) (s : State), step (s.withPending (c :: rest)) = exec c (s.withPending rest)

/-- No command stops the part (log entry 3), so every step answers a next state; on an empty queue it is the same
state (log entry 12). -/
def Obligations.EveryStepAnswersNext : Prop :=
  (∀ (i : Instr) (s : State), ∃ t, exec i s = .next t) ∧
    (∀ s : State, ∃ t, step s = .next t ∧ (s.pending = [] → t = s))

/-- No command changes the queue of waiting commands; only the pin rows change a pin; only TIME_BASE_TICK and
DEVICE_RESET change the microsecond count. -/
def Obligations.CommandsLeaveQueuePinsAndCount : Prop :=
  ∀ (i : Instr) (s t : State), exec i s = .next t →
    t.pending = s.pending ∧
      (i ≠ .timeBaseTick → i ≠ .deviceReset → t.timeBase.now = s.timeBase.now) ∧
      (i ≠ .deviceReset → i ≠ .wenFall → i ≠ .wenRise → (∀ c, i ≠ .resetRelease c) → t.pins = s.pins)

/-- The values device reset gives (R2, R3, R7, R8, R62, R78, R96, R110, R132, R135, R137, R156, R160, R163, R172, R173). -/
def Obligations.ResetValues : Prop :=
  State.reset.pins.resetN = false ∧ State.reset.episode = false ∧
    (∀ r : RingId, State.reset.rings[r].opState = .disabled ∧ State.reset.rings[r].validity = .none ∧
      State.reset.rings[r].poolOffset = none ∧ State.reset.rings[r].occupancy = 0 ∧
      State.reset.rings[r].tracking = Tracking.rest .off ∧ State.reset.rings[r].tailCapture = emptyTail ∧
      ∀ k : SlotId, State.reset.rings[r].roster[k] = ⟨.vacant, none, none, false⟩) ∧
    (∀ p : Nat, State.reset.berth p = Berth.free 0) ∧
    State.reset.holds = [] ∧ State.reset.verify.queue = [] ∧ State.reset.verify.outstanding = 0 ∧
    State.reset.port = ⟨[], [], .loader⟩ ∧
    State.reset.control = ⟨none, .loading, 0, false, none⟩ ∧
    State.reset.report.head = 0 ∧ State.reset.report.tail = 0 ∧ State.reset.report.buffer = [] ∧
    State.reset.report.dropped = 0 ∧ State.reset.report.headOwed = false ∧ State.reset.report.period = 0 ∧
    State.reset.report.writeOut = .idle ∧ State.reset.report.snapshotPending = false ∧
    State.reset.report.periodTimer = none ∧
    (∀ (r : RingId) (c : Counter), State.reset.counter r c = 0) ∧ (∀ r : RingId, State.reset.counters[r].overflow = 0) ∧
    State.reset.timeBase.now = 0 ∧ State.reset.timeBase.divisor = 100 ∧ State.reset.intAsserted = false

/-- What an event owes comes before anything else: every command but the two that make it one by one acts as on the state
in which all of it is made; then nothing is due; and a grant or an entry made by its own command is one of those that
were due (R100, R122, R129; that they are made by then and not earlier is log entry 9). -/
def Obligations.WhatIsDueComesFirst : Prop :=
  ∀ s : State,
    (∀ i : Instr, i ≠ .arbiterGrant → i ≠ .releasedReadEntry → exec i s = exec i s.due) ∧ s.due.nothingDue ∧
      (∀ t : State, exec .arbiterGrant s = .next t → t.due = s.due) ∧
      (∀ t : State, exec .releasedReadEntry s = .next t → t.due = s.due)

/-! ## Invariants -/

/-- The invariants hold at reset. -/
def Obligations.InvariantsHoldAtReset : Prop :=
  State.reset.withinCapacity ∧ State.reset.linkSettled ∧ State.reset.tagsDistinct ∧ State.reset.runsSound ∧
    State.reset.fillingIsCurrent

/-- Every step keeps each store within its places. -/
def Obligations.EveryStepKeepsCapacity : Prop :=
  ∀ s t : State, s.withinCapacity → step s = .next t → t.withinCapacity

/-- After every step the port has accepted from the link what it may, and no two outstanding transactions share initiator and
tag. Acceptance takes the transaction at the head of the link, one after another, while the port may accept: each is decided
at its arrival, after the grants that are due, as the row that presents it is decided at the open port (R96, R122 to R124). -/
def Obligations.EveryStepKeepsLinkSettled : Prop :=
  (∀ s t : State, s.linkSettled → step s = .next t → t.linkSettled) ∧
    (∀ s t : State, s.tagsDistinct → step s = .next t → t.tagsDistinct) ∧
    ∀ s : State,
      ((s.link = [] ∨ s.accepts = false) → s.drainLink = s) ∧
      (∀ (x : Transaction) (rest : List Transaction), s.link = x :: rest → s.accepts = true →
        s.drainLink = (State.arrive x { s with link := rest }).drainLink) ∧
      ∀ x : Transaction, s.arrive x = s.grantDue.arrive x ∧ (s.grantee = none → s.grantDue = s) ∧
        ∀ i : Instr, i.transaction? = some x → s.portOpen → exec i s = .next (s.arrive x)

/-- Every step keeps the valid rings' runs of the pool inside it and apart, and their group sizes in 1..16. -/
def Obligations.EveryStepKeepsRunsSound : Prop := ∀ s t : State, s.runsSound → step s = .next t → t.runsSound

/-- Every step keeps a ring's FILLING berth its current berth, in an ACTIVE ring outside HUNT: so a ring has at most one. -/
def Obligations.EveryStepKeepsOneFillingBerth : Prop :=
  ∀ s t : State, s.runsSound → s.fillingIsCurrent → step s = .next t → t.fillingIsCurrent

/-- The runs that a load allots lie inside the pool and follow each other in ring order (R7, R150). -/
def Obligations.AllottedRunsFollowEachOther : Prop :=
  ∀ (ctlsel : BitVec 4) (image : List Byte) (r : RingId) (o : Nat), (validOffsets ctlsel image)[r] = some o →
    o + berthCountOf image r ≤ 2048 ∧
      ∀ (q : RingId) (x : Nat), r < q → (validOffsets ctlsel image)[q] = some x → o + berthCountOf image r ≤ x

/-! ## Pins and Time Base -/

/-- DEVICE_RESET leaves the reset state, but for the level of WEN, the responses already sent and the commands that wait (log
entries 5 and 20); the values of the reset state that the manual does not give, CTLSEL's and the kept WEN level among them,
are log entry 4. RESET_RELEASE samples CTLSEL and begins the reading phase of the start-up load. A fall or rise of WEN
changes its level and a rise clears the episode flag (R135, R136). Beside that, what is due is made first (log entry 9), and
nothing else changes. -/
def Obligations.PinsAndReset : Prop :=
  ∀ s : State,
    exec .deviceReset s =
      .next { State.reset with
        pins := { State.reset.pins with wen := s.pins.wen }, responses := s.due.responses, pending := s.pending } ∧
    (∀ ctlsel : BitVec 4, s.pins.resetN = false →
      exec (.resetRelease ctlsel) s =
        .next { s.due with
          pins := { s.pins with resetN := true, ctlsel := ctlsel }
          control := { s.due.control with load := some ⟨.startUp, .reading, [], 0, 0, none, noOffsets, false⟩ } }) ∧
    exec .wenFall s = .next { s.due with pins := { s.pins with wen := false } } ∧
    exec .wenRise s = .next { s.due with pins := { s.pins with wen := true }, episode := false }

/-- While RESET_N is high every tick advances the count by 1, with wrap, under the divisor in force, and one at which nothing
is due does nothing else; while RESET_N is low the count stands. A tick at which hold deadlines are due takes the first
of them as its own event, as HOLD_DEADLINE does, makes what that event owes, and goes on as the tick after it (R102, R129,
R160, log 11). -/
def Obligations.TickAdvancesTheCount : Prop :=
  ∀ s : State,
    (s.pins.resetN = true → ∃ t, exec .timeBaseTick s = .next t ∧
      t.timeBase.now = s.timeBase.now + 1 ∧ t.timeBase.running = t.timeBase.divisor) ∧
    (s.pins.resetN = true → s.nothingDue → (s.holds.all fun h => !s.holdDue h) = true →
      (allRings.all fun r => !s.quietDue r) = true → s.periodDue = false →
      exec .timeBaseTick s = .next { s with timeBase := ⟨s.timeBase.now + 1, s.timeBase.divisor, s.timeBase.divisor⟩ }) ∧
    (s.pins.resetN = true → s.nothingDue → ∀ (h : HoldPlace) (rest : List HoldPlace) (u : State),
      s.holds.filter s.holdDue = h :: rest → exec (.holdDeadline h.read.initiator h.read.tag) s = .next u →
      u.due.holds.filter u.due.holdDue = rest →
      exec .timeBaseTick s = exec .timeBaseTick u) ∧
    (s.pins.resetN = false → exec .timeBaseTick s = .next s.due)

/-! ## The upstream port -/

/-- While the port accepts nothing, a presented transaction waits behind those on the link. A MALFORMED transaction is answered
so at its arrival. Nothing else happens. -/
def Obligations.ClosedPortAndMalformedTransactions : Prop :=
  ∀ (i : Instr) (s : State),
    (∀ x : Transaction, i.transaction? = some x → s.nothingDue → s.accepts = false →
      exec i s = .next { s with link := s.link ++ [x] }) ∧
    (s.portOpen → ∀ t : ReadTx, i.transaction? = some (.read t) →
      s.malformed t.initiator t.tag t.address t.length = true →
      exec i s = .next { s with responses := s.responses ++ [⟨t.initiator, t.tag, .malformed, []⟩] }) ∧
    (s.portOpen → ∀ w : WriteTx, i.transaction? = some (.write w) →
      s.malformed w.initiator w.tag w.address w.length = true →
      exec i s = .next { s with responses := s.responses ++ [⟨w.initiator, w.tag, .malformed, []⟩] })

/-- While WEN is low, a write that touches a guarded area is refused: it acts on nothing but the writer's response, the
episode flag with its one record, and WRITES_REFUSED of the ring it fell in. A transaction lies in the first area of R12
that holds its address, in a window in the berth and at the offset of R13; guarded are the windows of rings that are not
DISABLED, the ranges in use, and the profile area and the command word of the control block; WRITE_DISABLED has the
fields of R135 (R12, R13, R134, R135, R137, R145). -/
def Obligations.WenLowRefusesGuardedWrites : Prop :=
  (∀ (i : Instr) (w : WriteTx) (s : State), i.transaction? = some (.write w) → s.takesForm w → s.pins.wen = false →
    s.wenGuards (s.classify w.address) w = true →
    ∃ t, exec i s = .next t ∧ t.responses = s.responses ++ [⟨w.initiator, w.tag, .refused, []⟩] ∧ t.episode = true ∧
      t.rings = s.rings ∧ t.pool = s.pool ∧ t.holds = s.holds ∧ t.verify = s.verify ∧ t.port = s.port ∧
      t.control = s.control ∧ t.link = s.link ∧
      t.report = (if s.episode then s else s.raise (s.writeDisabledRecord (s.classify w.address) w)).report ∧
      (∀ (r : RingId) (b o : Nat), s.classify w.address = .window r b o →
        t.counters = (s.count r .writesRefused).counters) ∧
      ((∀ (r : RingId) (b o : Nat), s.classify w.address ≠ .window r b o) → t.counters = s.counters)) ∧
  (∀ (s : State) (w : WriteTx),
    (∀ offset : Nat, 1 ≤ w.length → (s.wenGuards (.control offset) w = true ↔
      ∃ k : Nat, offset ≤ k ∧ k < offset + w.length ∧ (k ≤ 0x283 ∨ 0x300 ≤ k ∧ k ≤ 0x307))) ∧
    (∀ (r : RingId) (b o : Nat), s.wenGuards (.window r b o) w = true ↔ s.rings[r].opState ≠ .disabled) ∧
    (∀ n : SlotId, s.wenGuards (.range n) w = true) ∧ s.wenGuards .reportRing w = false ∧ s.wenGuards .plain w = false ∧
    let record (ring : Byte) (berth : BitVec 16) (seq : Seq) (detail : Byte) : Record :=
      { kind := .writeDisabled, ring := ring, berth := berth, seq := seq, initiator := initiatorField w.initiator
        detail := detail, extra := BitVec.ofNat 32 (w.address.toNat / 64) }
    (∀ (r : RingId) (b o : Nat), s.writeDisabledRecord (.window r b o) w =
      record (ringField r) (BitVec.ofNat 16 b) ((s.ringBerth r b).seq.getD 0) 1) ∧
    (∀ n : SlotId, s.writeDisabledRecord (.range n) w = record 0xFF 0 0 2) ∧
    ∀ offset : Nat, s.writeDisabledRecord (.control offset) w = record 0xFF 0 0 3) ∧
  ∀ (s : State) (a : Addr),
    let x := a.toNat
    let base := s.pins.ctlsel.toNat * 2 ^ 32 + 2 ^ 32 - 4096
    let inControl : Prop := base ≤ x ∧ x < base + 4096
    let inReport : Prop := ∃ d : DeviceProfile, s.control.device = some d ∧ d.reportBase.toNat ≤ x ∧
      x < d.reportBase.toNat + 16 * d.reportEntries
    let inWindow (r : RingId) : Prop :=
      let p := s.rings[r].profile
      s.rings[r].validity = .valid ∧ p.windowBase.toNat ≤ x ∧ x < p.windowBase.toNat + p.berthCount * 2 ^ p.sizeExponent
    let inRange (n : SlotId) : Prop := ∃ (d : DeviceProfile) (g : ProtectRange), s.control.device = some d ∧
      d.ranges[n] = some g ∧ g.base.toNat ≤ x ∧ x < g.base.toNat + 4096 * g.size
    (inControl → s.classify a = .control (x - base)) ∧
      (¬inControl → inReport → s.classify a = .reportRing) ∧
      (¬inControl → ¬inReport →
        (∀ r : RingId, inWindow r → (∀ q : RingId, q < r → ¬inWindow q) →
          let offset := x - s.rings[r].profile.windowBase.toNat
          let size := 2 ^ s.rings[r].profile.sizeExponent
          s.classify a = .window r (offset / size) (offset % size)) ∧
        ((∀ r : RingId, ¬inWindow r) →
          (∀ n : SlotId, inRange n → (∀ m : SlotId, m < n → ¬inRange m) → s.classify a = .range n) ∧
          ((∀ n : SlotId, ¬inRange n) → s.classify a = .plain)))

/-! ## Starts -/

/-- START_WRITE in HUNT: a good-sync start at a FREE berth, or at a live one under RECLAIM, becomes the candidate, the ring
enters CONFIRM, and the berth is claimed; then come the length check or a seal, and the group completion test. A start
without good sync passes untracked into a FREE or DAMAGED berth and is refused into any other (R19, R22, R48). -/
def Obligations.CandidateStartEntersConfirm : Prop :=
  ∀ (s : State) (w : WriteTx) (r : RingId) (b : Nat), s.takesProducerWrite w r b 0 → s.rings[r].tracking.align = .hunt →
    s.poolIndex r b < 2048 →
    (∀ l : Lead, leadOf s.rings[r].profile.sync w = some l →
      ((s.ringBerth r b).state = .free ∨ s.rings[r].profile.overrun = .reclaim) →
      let reclaimed := (s.ringBerth r b).state.live
      let judged := (s.overrunTaken r b w.initiator).modTracking r fun t =>
        { t with align := .confirm, candidateBerth := some b, candidateSeq := some l.seq, confirmProgress := 0 }
      ∃ u : State, (judged.abandonCurrent r).claimedTo r b l reclaimed w u ∧
        exec (.startWrite w) s =
          .next (s.settleReleases ((u.judgeClaim r ⟨b, l.seq, some l, reclaimed⟩).groupTest r))) ∧
    (leadOf s.rings[r].profile.sync w = none →
      exec (.startWrite w) s =
        .next (if (s.ringBerth r b).state = .free ∨ (s.ringBerth r b).state = .damaged then s.pushPass (writeEntry w none)
          else (((s.respond w.initiator w.tag .refused []).raise
            { kind := .liveWriteRefused, ring := ringField r, berth := berthField b, seq := seqField (s.ringBerth r b)
              initiator := initiatorField w.initiator }).count r .writesRefused)))

/-- START_WRITE in CONFIRM: a start at the position with the expected sequence confirms: it raises confirm progress, and at the
confirm count the ring is LOCKED, with LOCK_ACQUIRED, ALIGNMENT_CHANGED when the berth is not the carried position, and
the group unit's examination (R20, R31). Any other start abandons the FILLING berth, returns the ring to HUNT and is judged
there once more (R21). -/
def Obligations.StartsInConfirm : Prop :=
  ∀ (s : State) (w : WriteTx) (r : RingId) (b : Nat), s.takesProducerWrite w r b 0 →
    s.rings[r].tracking.align = .confirm → s.poolIndex r b < 2048 →
    (∀ l : Lead, leadOf s.rings[r].profile.sync w = some l → s.rings[r].tracking.position = some b →
      s.rings[r].tracking.expected = some l.seq →
      ((s.ringBerth r b).state = .free ∨ s.rings[r].profile.overrun = .reclaim) →
      let reclaimed := (s.ringBerth r b).state.live
      let progress := s.rings[r].tracking.confirmProgress + 1
      let progressed := (s.overrunTaken r b w.initiator).modTracking r fun t => { t with confirmProgress := progress }
      (progress ≠ s.rings[r].profile.confirmCount →
        ∃ u : State, (progressed.abandonCurrent r).claimedTo r b l reclaimed w u ∧
          exec (.startWrite w) s =
            .next (s.settleReleases ((u.judgeClaim r ⟨b, l.seq, some l, reclaimed⟩).groupTest r))) ∧
      (progress = s.rings[r].profile.confirmCount →
        let acquired := (progressed.modTracking r fun t => { t with align := .locked, errorCount := 0 }).raise
          { kind := .lockAcquired, ring := ringField r, berth := berthField b, seq := l.seq
            initiator := initiatorField w.initiator
            extra := s.rings[r].tracking.candidateSeq.getD 0 ++
              BitVec.ofNat 16 (s.rings[r].tracking.candidateBerth.getD 0) }
        let judged := match s.rings[r].tracking.prevLocked with
          | none => acquired
          | some (e, x) =>
            let carried := (e + (l.seq - x).toNat) % s.rings[r].profile.berthCount
            if b = carried then acquired
            else acquired.raise
              { kind := .alignmentChanged, ring := ringField r, berth := berthField b, seq := l.seq
                initiator := initiatorField w.initiator, extra := BitVec.ofNat 32 carried }
        ∃ u : State, (judged.abandonCurrent r).claimedTo r b l reclaimed w u ∧
          exec (.startWrite w) s =
            .next (s.settleReleases (((u.judgeClaim r ⟨b, l.seq, some l, reclaimed⟩).groupTest r).examine r
              ⟨b, l.seq, l.mark, w.initiator⟩)))) ∧
    ((∀ l : Lead, leadOf s.rings[r].profile.sync w = some l →
        ¬(s.rings[r].tracking.position = some b ∧ s.rings[r].tracking.expected = some l.seq)) →
      exec (.startWrite w) s =
        .next (s.settleReleases (State.start r b w ((s.abandonCurrent r).modTracking r fun t =>
          { t with
            align := .hunt, errorCount := 0, confirmProgress := 0, candidateBerth := none, candidateSeq := none
            position := none, expected := none, current := none }))))

/-- START_WRITE in LOCKED: a good start at a FREE berth, or at a live one under RECLAIM, sets the count of alignment errors to 0
and claims the berth; then come the length check or a seal, the group completion test, and the group unit's examination
(R22, R23, R41, R65). With a length within the limit and the record not complete there is no seal and no damage. -/
def Obligations.GoodStartClaimsTheBerth : Prop :=
  ∀ (s : State) (w : WriteTx) (r : RingId) (b : Nat) (l : Lead), s.takesProducerWrite w r b 0 →
    s.rings[r].tracking.align = .locked → s.poolIndex r b < 2048 → leadOf s.rings[r].profile.sync w = some l →
    s.rings[r].tracking.position = some b → s.rings[r].tracking.expected = some l.seq →
    ((s.ringBerth r b).state = .free ∨ s.rings[r].profile.overrun = .reclaim) →
    let reclaimed := (s.ringBerth r b).state.live
    let judged := (s.overrunTaken r b w.initiator).modTracking r fun t => { t with errorCount := 0 }
    ∃ u : State, (judged.abandonCurrent r).claimedTo r b l reclaimed w u ∧
      (l.payload.toNat ≤ s.rings[r].profile.berthSize - 16 → w.length < recordEnd l.payload →
        u.judgeClaim r ⟨b, l.seq, some l, reclaimed⟩ = u) ∧
      exec (.startWrite w) s =
        .next (s.settleReleases (((u.judgeClaim r ⟨b, l.seq, some l, reclaimed⟩).groupTest r).examine r
          ⟨b, l.seq, l.mark, w.initiator⟩))

/-- START_WRITE in LOCKED at the position: a sequence break is reported, counts as an alignment error under LEAD_OR_SEQUENCE
alone, and claims the berth with its own sequence (R24). A start without a good lead is a lead error: it counts, and claims
the berth as DAMAGED(LEAD_ERROR) with the expected sequence (R25). Each is examined by the group unit, a lead error as
unmarked, and loses the lock when it is the third error in a row (R28). Nothing of a start with a bad lead is fed to the
running check, whose first value a free record has: log entry 23 (DEDUCED). -/
def Obligations.BreakAndLeadErrorInLocked : Prop :=
  ∀ (s : State) (w : WriteTx) (r : RingId) (b : Nat), s.takesProducerWrite w r b 0 →
    s.rings[r].tracking.align = .locked → s.poolIndex r b < 2048 → s.rings[r].tracking.position = some b →
    ((s.ringBerth r b).state = .free ∨ s.rings[r].profile.overrun = .reclaim) →
    let reclaimed := (s.ringBerth r b).state.live
    let base := s.overrunTaken r b w.initiator
    let thirdLoses (v : State) : State :=
      if v.rings[r].tracking.align = .locked ∧ 3 ≤ v.rings[r].tracking.errorCount then v.loseLock r .consecutiveErrors
      else v
    (∀ l : Lead, leadOf s.rings[r].profile.sync w = some l → s.rings[r].tracking.expected ≠ some l.seq →
      let counted := base.modTracking r fun t =>
        { t with errorCount := if s.rings[r].profile.lockRule = .leadOnly then 0 else t.errorCount + 1 }
      let judged := (counted.raise
        { kind := .sequenceBreak, ring := ringField r, berth := berthField b, seq := l.seq
          initiator := initiatorField w.initiator }).count r .sequenceBreaks
      ∃ u : State, (judged.abandonCurrent r).claimedTo r b l reclaimed w u ∧
        exec (.startWrite w) s =
          .next (s.settleReleases (thirdLoses (((u.judgeClaim r ⟨b, l.seq, some l, reclaimed⟩).groupTest r).examine r
            ⟨b, l.seq, l.mark, w.initiator⟩)))) ∧
    (∀ x : Seq, leadOf s.rings[r].profile.sync w = none → s.rings[r].tracking.expected = some x →
      let judged :=
        ((base.modTracking r fun t => { t with errorCount := t.errorCount + 1 }).count r .leadErrors).abandonCurrent r
      let claimed : Berth :=
        { Berth.free ((s.ringBerth r b).generation + 1) with
          state := .damaged, seq := some x, claimant := some w.initiator, fillCursor := w.length, outstanding := 1
          damage := some .leadError }
      ∃ u : State,
        u.berth (s.poolIndex r b) = judged.rings[r].published .damaged claimed ∧
          u.rings[r].tracking =
            { judged.rings[r].tracking with
              current := some b, position := some ((b + 1) % s.rings[r].profile.berthCount), expected := some (x + 1)
              quietTimer := judged.quietTimerAfter r } ∧
          u.port = { judged.port with
            passThrough := judged.port.passThrough ++
              [writeEntry w (some ⟨r, s.poolIndex r b, (s.ringBerth r b).generation + 1⟩)] } ∧
          u.counter r .leadErrors = judged.counter r .leadErrors ∧
          u.report = (judged.raise (damagedRecord r b .leadError claimed)).report ∧
          exec (.startWrite w) s =
            .next (s.settleReleases (thirdLoses (u.examine r ⟨b, x, false, w.initiator⟩))))

/-- The starts that are not claimed. In LOCKED, at a FREE berth other than the producer position a slip, passed untracked; at
a live one refused; both count an alignment error, and the third in a row loses the lock (R26 to R28). In any state a
start that would be claimed at a live berth is refused under BLOCK and counted as an overrun, the alignment as it was
(R22, R56). -/
def Obligations.StartsNotClaimed : Prop :=
  ∀ (s : State) (w : WriteTx) (r : RingId) (b : Nat), s.takesProducerWrite w r b 0 →
    (s.rings[r].tracking.align = .locked → s.rings[r].tracking.position ≠ some b →
      let counted (v : State) : State := v.modTracking r fun t => { t with errorCount := t.errorCount + 1 }
      let thirdLoses (v : State) : State :=
        if 2 ≤ s.rings[r].tracking.errorCount then s.settleReleases (v.loseLock r .consecutiveErrors) else v
      ((s.ringBerth r b).state = .free →
        exec (.startWrite w) s =
          .next (thirdLoses (((counted (s.pushPass (writeEntry w none))).raise
            { kind := .slip, ring := ringField r, berth := berthField b
              initiator := initiatorField w.initiator }).count r .slips))) ∧
      ((s.ringBerth r b).state ≠ .free →
        exec (.startWrite w) s =
          .next (thirdLoses ((((counted s).respond w.initiator w.tag .refused []).raise
            { kind := .liveWriteRefused, ring := ringField r, berth := berthField b
              initiator := initiatorField w.initiator }).count r .writesRefused)))) ∧
    ((s.rings[r].tracking.align = .hunt ∧ (leadOf s.rings[r].profile.sync w).isSome = true ∨
        s.rings[r].tracking.align = .confirm ∧ s.rings[r].tracking.position = some b ∧
          (∃ l : Lead, leadOf s.rings[r].profile.sync w = some l ∧ s.rings[r].tracking.expected = some l.seq) ∨
        s.rings[r].tracking.align = .locked ∧ s.rings[r].tracking.position = some b) →
      (s.ringBerth r b).state ≠ .free → s.rings[r].profile.overrun = .block →
      exec (.startWrite w) s =
        .next ((((s.count r .overruns).respond w.initiator w.tag .refused []).raise
          { kind := .overrunRefused, ring := ringField r, berth := berthField b, seq := seqField (s.ringBerth r b)
            initiator := initiatorField w.initiator }).count r .writesRefused))

/-- RECLAIM takes a live berth from its old record: the slots that had to release it are lapped, the entries on it end
NOT_READY, its verify job is cancelled, BERTH_RECLAIMED is raised and RECLAIMS counted, and the berth stands as FREE of
its old generation while the occupancy keeps counting it (R57, R119). -/
def Obligations.ReclaimTakesTheBerth : Prop :=
  ∀ (s : State) (r : RingId) (b : Nat) (writer : Initiator), s.poolIndex r b < 2048 →
    let p := s.poolIndex r b
    let old := s.ringBerth r b
    let t := s.reclaim r b writer
    t.berth p = Berth.free old.generation ∧ (∀ q : Nat, q ≠ p → t.berth q = s.berth q) ∧
      (∀ k : SlotId, t.rings[r].roster[k] =
        { s.rings[r].roster[k] with lapped := s.rings[r].roster[k].lapped || old.pendingSet.getLsbD k.val }) ∧
      t.rings[r].tracking = s.rings[r].tracking ∧ t.rings[r].occupancy = s.rings[r].occupancy ∧
      (∀ q : RingId, q ≠ r → t.rings[q] = s.rings[q]) ∧
      t.holds = s.holds.filter (fun h => !(h.waiting && h.berth == p)) ∧
      t.responses = s.responses ++ notReadyResponses (s.holds.filter fun h => h.waiting && h.berth == p) ∧
      t.verify = (if old.state = .checking
        then VerifyEngine.activate { s.verify with queue := s.verify.queue.filter (·.berth != p) } else s.verify) ∧
      t.report = (s.raise
        { kind := .berthReclaimed, ring := ringField r, berth := berthField b, seq := seqField old
          initiator := initiatorField writer, extra := old.pendingSet.setWidth 32 }).report ∧
      t.counter r .reclaims = (s.count r .reclaims).counter r .reclaims ∧ t.port = s.port

/-- A loss of lock, whatever its cause: from LOCKED the ring remembers where it stood; the FILLING berth is abandoned, the
STAGED berths are published, which releases the entries on them; the entries on the ring's other berths that are neither
READY nor DAMAGED end NOT_READY in arrival order; the ring is ACTIVE in HUNT with the tracking values of R30; and LOCK_LOST
is raised and counted. REFRAME in CONFIRM or LOCKED forces one (R30 to R32, R103). -/
def Obligations.LossOfLockTakesItsSteps : Prop :=
  ∀ (s : State) (r : RingId),
    (∀ cause : LossCause, s.ringSound r →
      let old := s.rings[r].tracking
      let t := s.loseLock r cause
      s.closedOut r t ∧ t.rings[r].opState = s.rings[r].opState ∧
        t.rings[r].tracking =
          { old with
            align := .hunt, position := none, expected := none, current := none, candidateBerth := none
            candidateSeq := none, confirmProgress := 0, errorCount := 0, quietTimer := none, quietFlag := false
            prevLocked := if old.align = .locked then some (old.position.getD 0, old.expected.getD 0) else old.prevLocked
            group := if old.group = .off then .off else .search
            groupCandidate := if old.group = .off then old.groupCandidate else none
            groupStart := if old.group = .off then old.groupStart else none
            groupErrors := if old.group = .off then old.groupErrors else 0
            searchCount := if old.group = .off then old.searchCount else 0 } ∧
        t.counter r .lockLosses = (s.count r .lockLosses).counter r .lockLosses ∧
        t.report = ((s.abandonReported r).raise
          { kind := .lockLost, ring := ringField r, berth := berthField (old.position.getD 0)
            seq := old.expected.getD 0, detail := cause.code }).report ∧
        t.port = s.port ∧ ∀ q : RingId, q ≠ r → t.rings[q] = s.rings[q]) ∧
    ∀ w : WriteTx, s.takesRingCommand w 4 r → s.rings[r].opState = .active → s.rings[r].tracking.align ≠ .hunt →
      exec (.reframe w) s =
        .next (s.settleReleases (((s.commanded w).loseLock r .command).raise (commandDone w (ringField r) 4)))

/-! ## The group unit -/

/-- The group unit examines a start claimed in LOCKED. In SEARCH it counts the start, locks on a mark exactly G behind another,
keeps a mark as the candidate, and falls back after 4 G starts; in UNGROUPED it goes on only under keep-searching; in LOCKED
a mark out of place is a group error, and the second in a row publishes every STAGED berth and loses the group lock (R65,
R67 to R71). Outside LOCKED, and when it is OFF, it examines nothing. -/
def Obligations.GroupUnitExamines : Prop :=
  ∀ (s : State) (r : RingId) (x : Examined),
    let k := s.rings[r].tracking
    let size := s.rings[r].profile.groupSize
    let record (kind : ReportKind) : Record :=
      { kind := kind, ring := ringField r, berth := berthField x.berth, seq := x.seq
        initiator := initiatorField x.claimant }
    let locks : Prop := x.mark = true ∧ ∃ c : Seq, k.groupCandidate = some c ∧ (x.seq - c).toNat = size
    let candidate : Option Seq := if x.mark then some x.seq else k.groupCandidate
    let outOfPlace : Prop :=
      ¬(groupPosition size (k.groupStart.getD 0) x.seq = 0 ↔ x.mark = true)
    ((k.align ≠ .locked ∨ k.group = .off) → s.examine r x = s) ∧
    (k.align = .locked → k.group = .search →
      (locks → s.examine r x =
        (s.modTracking r fun t =>
          { t with
            searchCount := t.searchCount + 1, group := .locked, groupStart := some x.seq, groupErrors := 0
            groupCandidate := none }).raise { record .groupLocked with detail := BitVec.ofNat 8 size }) ∧
      (¬locks → k.searchCount + 1 ≠ 4 * size → s.examine r x =
        s.modTracking r fun t => { t with searchCount := t.searchCount + 1, groupCandidate := candidate }) ∧
      (¬locks → k.searchCount + 1 = 4 * size → s.examine r x =
        (s.modTracking r fun t =>
          { t with searchCount := t.searchCount + 1, groupCandidate := candidate, group := .ungrouped }).raise
          { record .groupFallback with detail := BitVec.ofNat 8 size })) ∧
    (k.align = .locked → k.group = .ungrouped →
      (s.rings[r].profile.keepSearching = false → s.examine r x = s) ∧
      (s.rings[r].profile.keepSearching = true → locks → s.examine r x =
        (s.modTracking r fun t =>
          { t with group := .locked, groupStart := some x.seq, groupErrors := 0, groupCandidate := none }).raise
          { record .groupLocked with detail := BitVec.ofNat 8 size }) ∧
      (s.rings[r].profile.keepSearching = true → ¬locks → s.examine r x =
        s.modTracking r fun t => { t with groupCandidate := candidate })) ∧
    (k.align = .locked → k.group = .locked →
      (¬outOfPlace → s.examine r x =
        s.modTracking r fun t =>
          { t with groupErrors := 0, groupStart := if x.mark then some x.seq else t.groupStart }) ∧
      (outOfPlace → k.groupErrors = 0 → s.examine r x =
        (s.count r .groupErrors).modTracking r fun t => { t with groupErrors := 1 }) ∧
      (outOfPlace → 1 ≤ k.groupErrors →
        ∃ t : State, s.examine r x = t.raise { record .groupLost with extra := BitVec.ofNat 32 (s.stagedBerths r).length } ∧
          t.rings[r].tracking =
            { k with group := .search, groupCandidate := none, groupStart := none, groupErrors := 0, searchCount := 0 } ∧
          t.counter r .groupErrors = (s.count r .groupErrors).counter r .groupErrors ∧ t.report = s.report ∧
          (1 ≤ size → size ≤ 16 → s.rings[r].poolBase + s.rings[r].profile.berthCount ≤ 2048 →
            ∀ i : Nat, i < s.rings[r].profile.berthCount →
              t.ringBerth r i =
                if (s.ringBerth r i).state = .staged then s.rings[r].published .ready (s.ringBerth r i)
                else s.ringBerth r i)))

/-- The group completion test of a unit that is LOCKED publishes exactly the STAGED berths that lie in a complete group: one whose
first G - 1 sequences the latest claimed sequence is not among, and of which no member is FILLING, SETTLING or CHECKING
(R66, R72, R73). In any other state of the unit it publishes nothing. -/
def Obligations.CompleteGroupsArePublished : Prop :=
  ∀ (s : State) (r : RingId),
    (s.rings[r].tracking.group ≠ .locked → s.groupTest r = s) ∧
    (s.rings[r].tracking.group = .locked → s.rings[r].poolBase + s.rings[r].profile.berthCount ≤ 2048 →
      let size := s.rings[r].profile.groupSize
      let start := s.rings[r].tracking.groupStart.getD 0
      let latest := s.rings[r].tracking.expected.getD 0 - 1
      let complete (base : Seq) : Prop :=
        (∀ n : Nat, n + 1 < size → n < 65536 → latest ≠ base + BitVec.ofNat 16 n) ∧
          ∀ i : Nat, i < s.rings[r].profile.berthCount → inGroup size base (seqField (s.ringBerth r i)) = true →
            (s.ringBerth r i).state ≠ .filling ∧ (s.ringBerth r i).state ≠ .settling ∧
              (s.ringBerth r i).state ≠ .checking
      let published (i : Nat) : Prop :=
        (s.ringBerth r i).state = .staged ∧
          ∃ j : Nat, j < s.rings[r].profile.berthCount ∧ (s.ringBerth r j).state = .staged ∧
            complete (groupBase size start (seqField (s.ringBerth r j))) ∧
            inGroup size (groupBase size start (seqField (s.ringBerth r j))) (seqField (s.ringBerth r i)) = true
      (∀ i : Nat, i < s.rings[r].profile.berthCount →
        (published i → (s.groupTest r).ringBerth r i = s.rings[r].published .ready (s.ringBerth r i)) ∧
        (¬published i → (s.groupTest r).ringBerth r i = s.ringBerth r i)) ∧
      (s.groupTest r).rings[r].tracking = s.rings[r].tracking ∧ (s.groupTest r).report = s.report ∧
      (s.groupTest r).port = s.port ∧ (s.groupTest r).responses = s.responses)

/-! ## Filling, sealing, damage, publication -/

/-- CONTINUATION_WRITE: a continuation that begins at the fill cursor of the FILLING current berth is taken: its bytes are fed
and captured, the cursor moves to its end, and it is passed tracked. One that completes the record then seals it (R39,
R44). Every other continuation but those into the FILLING current berth is judged by its berth's state: into a FREE berth,
and into a DAMAGED one that is the current berth or lies in a ring in HUNT, it passes untracked; into any other it is
refused, with LIVE_WRITE_REFUSED, and counted; neither changes anything else (R18, R46 to R48). -/
def Obligations.ContinuationsAreTakenPassedOrRefused : Prop :=
  (∀ (s : State) (w : WriteTx) (r : RingId) (b : Nat) (n : BitVec 16),
      s.takesProducerWrite w r b (s.ringBerth r b).fillCursor → (s.ringBerth r b).fillCursor ≠ 0 →
      s.rings[r].tracking.align ≠ .hunt → s.rings[r].tracking.current = some b → (s.ringBerth r b).state = .filling →
      (s.ringBerth r b).payload = some n → s.poolIndex r b < 2048 →
      ∃ u, exec (.continuationWrite w) s =
          .next (if recordEnd n ≤ (s.ringBerth r b).fillCursor + w.length then s.settleReleases (u.seal r b) else u) ∧
        u.berth (s.poolIndex r b) =
          { s.ringBerth r b with
            outstanding := (s.ringBerth r b).outstanding + 1
            fillCursor := (s.ringBerth r b).fillCursor + w.length
            check := crcFeed (s.ringBerth r b).check (bytesBelow (payloadEnd n) (s.ringBerth r b).fillCursor w.data) } ∧
        (∀ p : Nat, p ≠ s.poolIndex r b → u.berth p = s.berth p) ∧
        u.rings[r] =
          { s.rings[r] with
            tailCapture := captureTail (tailPosition n) (s.ringBerth r b).fillCursor w.data s.rings[r].tailCapture
            tracking := { s.rings[r].tracking with quietTimer := s.quietTimerAfter r } } ∧
        (∀ q : RingId, q ≠ r → u.rings[q] = s.rings[q]) ∧
        u.port = { s.port with
          passThrough := s.port.passThrough ++
            [writeEntry w (some ⟨r, s.poolIndex r b, (s.ringBerth r b).generation⟩)] } ∧
        u.counters = s.counters ∧ u.responses = s.responses ∧ u.holds = s.holds ∧ u.verify = s.verify ∧
        u.control = s.control ∧ u.report = s.report ∧ u.episode = s.episode ∧ u.link = s.link) ∧
  ∀ (s : State) (w : WriteTx) (r : RingId) (b offset : Nat), s.takesProducerWrite w r b offset → offset ≠ 0 →
    ¬(s.rings[r].tracking.align ≠ .hunt ∧ s.rings[r].tracking.current = some b ∧ (s.ringBerth r b).state = .filling) →
    let passes : Prop := (s.ringBerth r b).state = .free ∨ (s.ringBerth r b).state = .damaged ∧
      (s.rings[r].tracking.align = .hunt ∨ s.rings[r].tracking.current = some b)
    (passes → exec (.continuationWrite w) s = .next (s.pushPass (writeEntry w none))) ∧
    (¬passes → exec (.continuationWrite w) s = .next (((s.respond w.initiator w.tag .refused []).raise
      { kind := .liveWriteRefused, ring := ringField r, berth := berthField b, seq := seqField (s.ringBerth r b)
        initiator := initiatorField w.initiator }).count r .writesRefused))

/-- The part takes the lead from a start write of 8 bytes or more that begins with the sync pattern, and the tail word from the
captured bytes T to T + 7; the running check is the CRC of R17, of polynomial 0x04C11DB7, with the bits of each byte taken
from the lowest and the result reflected (R15 to R17). A claimed start of a length beyond the limit damages the berth with LENGTH_ERROR, and one that completes its record seals
it (R42). At a seal a wrong tail pattern damages the berth with TAIL_ERROR; a check code that differs from the running
check damages it with CHECK_ERROR, counts CHECK_ERRORS and, at the excess threshold in LOCKED, loses the lock; else the
berth is SETTLING with its completed check, BERTHS_SEALED is counted and the producer code is debounced. The quiet flag is
cleared (R33, R35, R49, R50). What a seal leaves of the running check of a berth that fails and of the tail capture is log
entries 32 and 33. -/
def Obligations.SealIsJudged : Prop :=
  (∀ (sync : BitVec 16) (w : WriteTx),
    let byte (k : Nat) : Byte := byteAt w.data k
    leadOf sync w =
      if 8 ≤ w.length ∧ byte 1 ++ byte 0 = sync then
        some ⟨byte 3 ++ byte 2, byte 5 ++ byte 4, (byte 6).getLsbD 7, (byte 6).extractLsb' 0 4⟩
      else none) ∧
  (∀ n : BitVec 16, payloadEnd n = 8 + n.toNat ∧ tailPosition n % 8 = 0 ∧ 8 + n.toNat ≤ tailPosition n ∧
    tailPosition n < 8 + n.toNat + 8 ∧ recordEnd n = tailPosition n + 8) ∧
  (∀ (t offset : Nat) (bytes : List Byte) (old : TailCapture) (j : Fin 8),
    (captureTail t offset bytes old)[j] =
      if offset ≤ t + j.val ∧ t + j.val < offset + bytes.length then some (byteAt bytes (t + j.val - offset)) else old[j]) ∧
  (∀ (sync : BitVec 16) (held : TailCapture),
    let byte (j : Fin 8) : Byte := (held[j] : Option Byte).getD 0
    tailCheckCode held = byte 3 ++ byte 2 ++ byte 1 ++ byte 0 ∧
      (tailPatternOk sync held = true ↔ byte 5 ++ byte 4 = sync ∧ byte 7 ++ byte 6 = ~~~sync)) ∧
  (∀ (limit offset : Nat) (data : List Byte), bytesBelow limit offset data = data.take (limit - offset)) ∧
  (∀ (c : Word) (data : List Byte),
    let fed (v : Word) (bit : Bool) : Word := (v <<< 1) ^^^ if v.msb != bit then 0x04C11DB7 else 0
    crcFeed c data =
        (data.foldl (fun v b => (List.range 8).foldl (fun v k => fed v (b.getLsbD k)) v) c.reverse).reverse ∧
      crcComplete c = c ^^^ 0xFFFFFFFF ∧ crcOf data = crcComplete (crcFeed 0xFFFFFFFF data)) ∧
  crcInit = 0xFFFFFFFF ∧ crcOf [0x31, 0x32, 0x33, 0x34, 0x35, 0x36, 0x37, 0x38, 0x39] = 0xCBF43926 ∧
  ∀ (s : State) (r : RingId) (b : Nat),
    (∀ (q : Seq) (l : Lead) (reclaimed : Bool), (s.ringBerth r b).payload = some l.payload →
      s.judgeClaim r ⟨b, q, some l, reclaimed⟩ =
        if s.rings[r].profile.berthSize - 16 < l.payload.toNat then s.damage r b .lengthError
        else if recordEnd l.payload ≤ (s.ringBerth r b).fillCursor then s.seal r b else s) ∧
    (s.poolIndex r b < 2048 → (s.ringBerth r b).state = .filling → (s.ringBerth r b).damage = none →
      let g := s.rings[r]
      let old := s.ringBerth r b
      let done := crcComplete old.check
      let t := s.seal r b
      (tailPatternOk g.profile.sync g.tailCapture = false →
        t.ringBerth r b = g.published .damaged { old with damage := some .tailError } ∧
          t.rings[r].tracking = { g.tracking with quietFlag := false } ∧
          t.report = (s.raise (damagedRecord r b .tailError old)).report ∧
          t.counter r .checkErrors = s.counter r .checkErrors ∧
          t.counter r .berthsDamaged = (s.count r .berthsDamaged).counter r .berthsDamaged) ∧
      (tailPatternOk g.profile.sync g.tailCapture = true → done ≠ tailCheckCode g.tailCapture →
        let errors := (s.count r .checkErrors).counter r .checkErrors
        let excess : Prop := g.profile.reframeOnExcess = true ∧ g.profile.excessThreshold ≠ 0 ∧
          g.tracking.align = .locked ∧ g.profile.excessThreshold ≤ errors.toNat
        t.ringBerth r b = g.published .damaged { old with damage := some .checkError } ∧
          t.counter r .checkErrors = errors ∧
          (¬excess → t.rings[r].tracking = { g.tracking with quietFlag := false } ∧
            t.report = (s.raise (damagedRecord r b .checkError old)).report) ∧
          (excess → t.rings[r].tracking.align = .hunt ∧
            t.counter r .lockLosses = (s.count r .lockLosses).counter r .lockLosses)) ∧
      (tailPatternOk g.profile.sync g.tailCapture = true → done = tailCheckCode g.tailCapture →
        let code : BitVec 4 := old.code.getD 0
        let k : Tracking := { g.tracking with quietFlag := false }
        t.ringBerth r b = { old with state := .settling, check := done } ∧
          (∀ p : Nat, p ≠ s.poolIndex r b → t.berth p = s.berth p) ∧
          t.rings[r] =
            { g with
              tracking :=
                if code = k.code then { k with codeCandidate := none }
                else if k.codeCandidate = some code then
                  { k with code := code, codeCandidate := none, quietTimer := if code = 15 then none else k.quietTimer }
                else { k with codeCandidate := some code } } ∧
          (∀ q : RingId, q ≠ r → t.rings[q] = s.rings[q]) ∧ t.counters = (s.count r .berthsSealed).counters ∧
          t.report =
            (if code ≠ k.code ∧ k.codeCandidate = some code then
              s.raise { kind := .producerCode, ring := ringField r, berth := berthField b, seq := seqField old
                        detail := code.setWidth 8 }
            else s).report ∧
          t.holds = s.holds ∧ t.verify = s.verify ∧ t.port = s.port ∧ t.responses = s.responses))

/-- A damage of a berth that is not DAMAGED sets a cause that is absent, raises and counts BERTH_DAMAGED, takes a CHECKING
berth's job out of the queue, forms the pending set, and releases the entries on the berth; one of a DAMAGED berth changes
nothing (R40). A continuation that does not begin at the fill cursor passes untracked and damages the FILLING berth with
FILL_ORDER; its fill cursor, running check and writes outstanding stay, and the alignment does not move (R45). -/
def Obligations.DamageTakesItsSteps : Prop :=
  ∀ (s : State) (r : RingId) (b : Nat),
    (∀ cause : DamageCause,
      let g := s.rings[r]
      let old := s.ringBerth r b
      let kept := old.damage.getD cause
      let t := s.damage r b cause
      (old.state = .damaged → t = s) ∧
      (old.state ≠ .damaged → s.poolIndex r b < 2048 →
        t.ringBerth r b = g.published .damaged { old with damage := some kept } ∧ t.rings[r].tracking = g.tracking ∧
          t.report = (s.raise (damagedRecord r b kept old)).report ∧
          t.counter r .berthsDamaged = (s.count r .berthsDamaged).counter r .berthsDamaged ∧
          (old.state = .checking → t.verify.queue = s.verify.queue.filter (·.berth != s.poolIndex r b)) ∧
          (old.state ≠ .checking → t.verify = s.verify) ∧
          (∀ h ∈ s.holds, h.waiting = true → h.berth = s.poolIndex r b →
            { h with released := some (if g.profile.poisonDamaged then .poisoned else .okay) } ∈ t.holds) ∧
          (∀ h ∈ t.holds, h.waiting = true → h.berth ≠ s.poolIndex r b) ∧ t.port = s.port ∧
          t.responses = s.responses)) ∧
    ∀ (w : WriteTx) (offset : Nat), s.takesProducerWrite w r b offset → offset ≠ 0 →
      offset ≠ (s.ringBerth r b).fillCursor → s.rings[r].tracking.align ≠ .hunt →
      s.rings[r].tracking.current = some b → (s.ringBerth r b).state = .filling →
      exec (.continuationWrite w) s =
        .next (s.settleReleases ((s.pushPass (writeEntry w none)).damage r b .fillOrder))

/-- A SETTLING berth whose writes have completed goes to the verify queue when verify is on and the queue has room, and else to
the publication step, with VERIFY_SKIPPED when the queue is full (R52, R111, R118). The publication step stages it in an
ACTIVE ring that publishes by groups while the group unit is LOCKED, and else makes it READY: its pending set is formed
of the ATTACHED slots whose cursor is absent or does not pass it, and the entries on it are released (R63, R64, R86). -/
def Obligations.SettledBerthsAreHandedOn : Prop :=
  ∀ (s : State) (r : RingId) (b : Nat), s.poolIndex r b < 2048 →
    let g := s.rings[r]
    let p := s.poolIndex r b
    let old := s.ringBerth r b
    (g.profile.verify = false → s.settled r b = s.publicationStep r b) ∧
    (g.profile.verify = true → s.verify.queue.length < 8 → (∀ j, s.verify.queue.head? = some j → j.phase ≠ .waiting) →
      s.settled r b =
        { s.modBerth p fun c => { c with state := .checking } with
          verify :=
            if s.verify.queue = [] then
              { s.verify with
                queue := [⟨r, p, old.generation, 1, .reading⟩], cursor := 0, check := crcInit, tail := emptyTail }
            else { s.verify with queue := s.verify.queue ++ [⟨r, p, old.generation, 0, .waiting⟩] } }) ∧
    (g.profile.verify = true → 8 ≤ s.verify.queue.length →
      s.settled r b =
        (s.raise { kind := .verifySkipped, ring := ringField r, berth := berthField b, seq := seqField old
                   initiator := claimantField old }).publicationStep r b) ∧
    (g.opState = .active ∧ g.profile.publishMode = .group ∧ g.tracking.group = .locked →
      s.publicationStep r b = (s.modBerth p fun c => { c with state := .staged }).groupTest r) ∧
    (¬(g.opState = .active ∧ g.profile.publishMode = .group ∧ g.tracking.group = .locked) →
      let t := s.publicationStep r b
      t.berth p = g.published .ready old ∧ (∀ q : Nat, q ≠ p → t.berth q = s.berth q) ∧
        t.rings[r] = (if g.pendingFor (seqField old) = 0 then { g with occupancy := g.occupancy - 1 } else g) ∧
        (∀ q : RingId, q ≠ r → t.rings[q] = s.rings[q]) ∧
        t.holds = s.holds.map (fun h => if h.waiting && h.berth == p then { h with released := some .okay } else h) ∧
        t.report = s.report ∧ t.verify = s.verify ∧ t.port = s.port ∧ t.responses = s.responses) ∧
    ∀ (q : Seq) (k : SlotId), (g.pendingFor q).getLsbD k.val = true ↔
      g.roster[k].state = .attached ∧ ∀ c : Seq, g.roster[k].cursor = some c → passes c q = false

/-! ## Foreign writes and FAULT_HELD -/

/-- A foreign write, and a producer's write at any offset of a berth that the other producer is filling (a claim conflict), is
refused, reported and counted; in a ring without strict nothing else changes. Under strict it also puts the ring into
FAULT_HELD, with that cause: the FILLING berth is abandoned and the STAGED berths are published, which releases the entries
on them, the other entries on berths neither READY nor DAMAGED end NOT_READY in arrival order, the tracking fields keep their values but for the quiet timer, which stops, and
FAULT_HELD is raised with the number of entries that ended (R34, R59, R60, R103, R140). -/
def Obligations.ForeignAndConflictingWritesAreRefused : Prop :=
  ∀ (s : State) (i : Instr) (w : WriteTx) (r : RingId) (b offset : Nat), i.transaction? = some (.write w) →
    s.takesWrite w → s.classify w.address = .window r b offset → s.rings[r].opState = .active →
    let isRefused (kind : ReportKind) (seq : Seq) (cause : Byte) : Prop :=
      let refused := ((s.respond w.initiator w.tag .refused []).raise
        { kind := kind, ring := ringField r, berth := berthField b, seq := seq
          initiator := initiatorField w.initiator }).count r .writesRefused
      (s.rings[r].profile.strict = false → exec i s = .next refused) ∧
      (s.rings[r].profile.strict = true → s.ringSound r →
        ∃ t : State, exec i s = .next (s.settleReleases t) ∧
          refused.heldTo r cause b (initiatorField w.initiator) t)
    (s.rings[r].profile.isProducer w.initiator = false → isRefused .foreignWrite 0 18) ∧
    (s.rings[r].profile.isProducer w.initiator = true → (s.ringBerth r b).state = .filling →
      (s.ringBerth r b).claimant ≠ some w.initiator → isRefused .claimConflict (seqField (s.ringBerth r b)) 17)

/-- While a ring is FAULT_HELD every write into its window is refused and counted, without a record (R141). What the ring
commands and RELOAD answer at it is what R142 says. -/
def Obligations.AHeldRing : Prop :=
  ∀ (s : State) (r : RingId), s.rings[r].opState = .faultHeld →
    (∀ (i : Instr) (w : WriteTx) (b offset : Nat), i.transaction? = some (.write w) → s.takesWrite w →
      s.classify w.address = .window r b offset →
      exec i s = .next ((s.respond w.initiator w.tag .refused []).count r .writesRefused)) ∧
    ∀ (slot : Byte) (c : CommandWord), s.rings[r].validity = .valid → slot.toNat < 4 →
      s.ringEnable r = .error .faultHeld ∧ s.ringDisable r = .error .faultHeld ∧
        (∃ t, s.ringReset r = .ok t ∧ t.rings[r].opState = .active) ∧ s.reframe r = .error .faultHeld ∧
        s.attach r slot = .error .faultHeld ∧
        (∀ k : SlotId, slotOfByte? slot = some k → s.rings[r].roster[k].state = .attached →
          ∃ t, s.detach r slot = .ok t ∧ t.rings[r].opState = .faultHeld) ∧
        s.beginReload c = .error .ringsActive

/-! ## Reads -/

/-- CONSUMER_READ in an ACTIVE ring: the outcome by the first line of R90 that applies. -/
def Obligations.JudgedReadInAnActiveRing : Prop :=
  ∀ (s : State) (t : ReadTx) (r : RingId) (b : Nat) (k : SlotId),
    s.takesJudgedRead t r b k → s.rings[r].opState = .active →
    exec (.consumerRead t) s =
      .next
        (if s.rings[r].roster[k].lapped = true then s.respond t.initiator t.tag .lapped []
        else if (s.ringBerth r b).state = .ready then s.pushPass (readEntry t .okay)
        else if (s.ringBerth r b).state = .damaged then
          s.pushPass (readEntry t (if s.rings[r].profile.poisonDamaged then .poisoned else .okay))
        else if (s.ringBerth r b).state ≠ .free then
          if s.rings[r].profile.holdLimit ≠ 0 then s.offerHold r b t else s.respond t.initiator t.tag .notReady []
        else if s.rings[r].tracking.align = .locked then
          if s.rings[r].tracking.position = some b ∧ s.rings[r].profile.holdLimit ≠ 0 then s.offerHold r b t
          else s.respond t.initiator t.tag .notReady []
        else s.pushPass (readEntry t .okay))

/-- A judged read in a FAULT_HELD ring: LAPPED, passed on a READY or DAMAGED berth, NOT_READY on any other (R91). -/
def Obligations.JudgedReadInAHeldRing : Prop :=
  ∀ (s : State) (t : ReadTx) (r : RingId) (b : Nat) (k : SlotId),
    s.takesJudgedRead t r b k → s.rings[r].opState = .faultHeld →
    exec (.consumerRead t) s =
      .next
        (if s.rings[r].roster[k].lapped = true then s.respond t.initiator t.tag .lapped []
        else if (s.ringBerth r b).state = .ready then s.pushPass (readEntry t .okay)
        else if (s.ringBerth r b).state = .damaged then
          s.pushPass (readEntry t (if s.rings[r].profile.poisonDamaged then .poisoned else .okay))
        else s.respond t.initiator t.tag .notReady [])

/-- A read offered to the Hold Queue is admitted while fewer than 16 places are taken, with its deadline at its arrival
time plus the ring's hold limit, and else answered NOT_READY with HOLD_QUEUE_FULL (R97). -/
def Obligations.HoldQueueAdmitsSixteen : Prop :=
  ∀ (s : State) (r : RingId) (b : Nat) (t : ReadTx),
    s.offerHold r b t =
      if s.holds.length < 16 then
        { s with
          holds := s.holds ++ [⟨t, r, s.poolIndex r b, s.timeBase.now,
            s.timeBase.now + s.rings[r].profile.holdLimit.setWidth 32, none⟩]
          counters := (s.count r .holdsStarted).counters }
      else (s.respond t.initiator t.tag .notReady []).raise
        { kind := .holdQueueFull, ring := ringField r, berth := berthField b, seq := seqField (s.ringBerth r b)
          initiator := initiatorField t.initiator, extra := t.tag.setWidth 32 }

/-! ## Reads that are not judged, writes that pass, and the control block's words -/

/-- UNCHECKED_READ: a read that the roster does not judge passes to memory with the outcome OKAY. PLAIN_WRITE: a write into plain
memory or the report ring passes; a write into a range in use passes for its allowed initiator and is else refused with
PROTECT_REFUSED; a write into the window of a DISABLED ring passes. CONTROL_BLOCK_WRITE: a write into the control block
outside the cursor area that the access checks refuse is answered REFUSED and raises PROTECT_REFUSED with detail 4; one
that they let through, and that is no command and no tail write, passes. They refuse a write that touches a word that the
part alone writes, and, with a profile in force, a write by no control initiator that touches the profile area, the
command word or the tail word. WEN, while low, changes this for no write that it does not guard (R1, R12, R89, R134, R138,
R146). -/
def Obligations.UncheckedTrafficAndAccessChecks : Prop :=
  ∀ s : State,
    (∀ t : ReadTx, s.takesRead t → s.unjudged t (s.classify t.address) = true →
      exec (.uncheckedRead t) s =
        .next { s with port := { s.port with passThrough := s.port.passThrough ++ [readEntry t .okay] } }) ∧
    (∀ w : WriteTx, s.takesWrite w →
      ((s.classify w.address = .plain ∨ s.classify w.address = .reportRing) →
        exec (.plainWrite w) s = .next (s.pushPass (writeEntry w none))) ∧
      ∀ n : SlotId, s.classify w.address = .range n →
        (s.rangeAllowed n = some w.initiator → exec (.plainWrite w) s = .next (s.pushPass (writeEntry w none))) ∧
        (s.rangeAllowed n ≠ some w.initiator →
          exec (.plainWrite w) s = .next ((s.respond w.initiator w.tag .refused []).raise
            { kind := .protectRefused, initiator := initiatorField w.initiator, detail := BitVec.ofNat 8 n.val
              extra := BitVec.ofNat 32 (w.address.toNat / 64) }))) ∧
    (∀ (i : Instr) (w : WriteTx) (r : RingId) (b offset : Nat), i.transaction? = some (.write w) → s.takesWrite w →
      s.classify w.address = .window r b offset → s.rings[r].opState = .disabled →
      exec i s = .next (s.pushPass (writeEntry w none))) ∧
    ∀ (w : WriteTx) (offset : Nat), s.takesControlWrite w offset → touchesCursors offset w.length = false →
      let partWritten := touches offset w.length 0x308 0x318 || touches offset w.length 0x800 0xA28
      let guarded := touches offset w.length 0x000 0x284 || touches offset w.length 0x300 0x308 ||
        touches offset w.length 0x318 0x320
      let refused := partWritten = true ∨
        guarded = true ∧ ∃ d, s.control.device = some d ∧ w.initiator ≠ d.controlA ∧ d.controlB ≠ some w.initiator
      (refused →
        exec (.controlBlockWrite w) s = .next ((s.respond w.initiator w.tag .refused []).raise
          { kind := .protectRefused, initiator := initiatorField w.initiator, detail := 4
            extra := BitVec.ofNat 32 (w.address.toNat / 64) })) ∧
      (¬refused → covers offset w.length 0x300 = false → touches offset w.length 0x318 0x320 = false →
        exec (.controlBlockWrite w) s = .next (s.pushPass (writeEntry w none)))

/-- CURSOR_WRITE: each touched word is judged by its slot and the writer, by the lines of R82. A write of which a touched word is
refused is refused whole, with one CURSOR_REFUSED for the lowest such word, and acts on no slot; else it passes to memory
and each word that is a cursor write acts in address order with the value in its bytes 0 and 1 (R81, R82). -/
def Obligations.CursorWordsAreJudged : Prop :=
  ∀ (s : State) (w : WriteTx) (offset : Nat), s.takesForm w → s.classify w.address = .control offset →
    touchesCursors offset w.length = true →
    (∀ (before : List (RingId × SlotId)) (r : RingId) (k : SlotId) (rest : List (RingId × SlotId)),
      touchedCursorWords offset w = before ++ (r, k) :: rest →
      (∀ a ∈ before, s.judgeCursorWord offset w a.1 a.2 ≠ .refused) → s.judgeCursorWord offset w r k = .refused →
      exec (.cursorWrite w) s = .next ((s.respond w.initiator w.tag .refused []).raise
        { kind := .cursorRefused, ring := ringField r, initiator := initiatorField w.initiator
          detail := BitVec.ofNat 8 k.val
          seq := if covers offset w.length (cursorWord r k) = true ∧ covers offset w.length (cursorWord r k + 1) = true
            then cursorValue offset w r k else 0 })) ∧
    ((∀ a ∈ touchedCursorWords offset w, s.judgeCursorWord offset w a.1 a.2 ≠ .refused) →
      exec (.cursorWrite w) s =
        .next (((touchedCursorWords offset w).filter fun a =>
          s.judgeCursorWord offset w a.1 a.2 == .cursorWrite).foldl
            (fun t a => t.takeCursor a.1 a.2 (cursorValue offset w a.1 a.2) w.initiator)
            (s.pushPass (writeEntry w none)))) ∧
    ((touchedCursorWords offset w).map fun a => 4 * a.1.val + a.2.val).Pairwise (· < ·) ∧
    ∀ (r : RingId) (k : SlotId),
      let word := 0x400 + 32 * r.val + 8 * k.val
      let slot := s.rings[r].roster[k]
      let low := covers offset w.length word
      let high := covers offset w.length (word + 1)
      let judged := s.judgeCursorWord offset w r k
      ((r, k) ∈ touchedCursorWords offset w ↔ offset < word + 8 ∧ word < offset + w.length) ∧
      (s.rings[r].validity ≠ .valid ∨ slot.state = .vacant → judged = .ordinary) ∧
      (s.rings[r].validity = .valid → slot.state ≠ .vacant → slot.initiator ≠ some w.initiator → judged = .refused) ∧
      (s.rings[r].validity = .valid → slot.initiator = some w.initiator →
        (slot.state = .detached → judged = .ordinary) ∧
        (slot.state = .attached →
          (low = true → high = true → judged = .cursorWrite ∧
            cursorValue offset w r k = byteAt w.data (word + 1 - offset) ++ byteAt w.data (word - offset)) ∧
          (low = false → high = false → judged = .ordinary) ∧ (low ≠ high → judged = .refused)))

/-- A cursor write stores the cursor and clears the lapped flag whatever its value, and takes its slot, and no other, out of the
pending set of every READY or DAMAGED berth whose sequence it passes; a berth whose set becomes empty is FREE of its
generation, and the occupancy falls by the berths that become so. A new value that the old cursor is ahead of raises
CURSOR_REGRESS (R83, R84). -/
def Obligations.CursorWriteReleases : Prop :=
  ∀ (s : State) (r : RingId) (k : SlotId) (c : Seq) (writer : Initiator),
    s.rings[r].poolBase + s.rings[r].profile.berthCount ≤ 2048 →
    let t := s.takeCursor r k c writer
    let left (i : Nat) : BitVec 4 := (s.ringBerth r i).pendingSet &&& ~~~(1#4 <<< k.val)
    let releases (i : Nat) : Bool :=
      (s.ringBerth r i).releasedBy c && (s.ringBerth r i).pendingSet.getLsbD k.val
    t.rings[r] =
      { s.rings[r] with
        roster := s.rings[r].roster.set k.val { s.rings[r].roster[k] with cursor := some c, lapped := false }
        occupancy := s.rings[r].occupancy -
          ((List.range s.rings[r].profile.berthCount).filter fun i => releases i && left i == 0).length } ∧
      (∀ i : Nat, i < s.rings[r].profile.berthCount →
        t.ringBerth r i =
          if releases i = true then
            if left i = 0 then Berth.free (s.ringBerth r i).generation else { s.ringBerth r i with pendingSet := left i }
          else s.ringBerth r i) ∧
      (∀ p : Nat, (∀ i : Nat, i < s.rings[r].profile.berthCount → p ≠ s.poolIndex r i) → t.berth p = s.berth p) ∧
      (∀ q : RingId, q ≠ r → t.rings[q] = s.rings[q]) ∧ t.port = s.port ∧ t.responses = s.responses ∧
      t.counters = s.counters ∧ t.holds = s.holds ∧ t.verify = s.verify ∧
      t.report = (match s.rings[r].roster[k].cursor with
        | some old =>
          if seqAhead old c = true then
            s.raise
              { kind := .cursorRegress, ring := ringField r, initiator := initiatorField writer
                detail := BitVec.ofNat 8 k.val, seq := c, extra := old.setWidth 32 }
          else s
        | none => s).report

/-- TAIL_WORD_WRITE: a write of the tail word that passes the access checks goes on to memory, and moves the tail, raises
TAIL_INVALID or does nothing more, by the lines of R167. -/
def Obligations.TailWordRule : Prop :=
  ∀ (s : State) (w : WriteTx) (offset : Nat),
    s.takesForm w → s.classify w.address = .control offset → touches offset w.length 0x318 0x320 = true →
    touchesCursors offset w.length = false → s.accessRefused offset w = false → covers offset w.length 0x300 = false →
    s.wenGuards (.control offset) w = false →
    exec (.tailWordWrite w) s =
      .next (match s.control.device with
        | none => s.pushPass (writeEntry w none)
        | some d =>
          let low := covers offset w.length 0x318
          let high := covers offset w.length 0x319
          let v : Seq := writtenByte w offset 0x319 ++ writtenByte w offset 0x318
          let invalid (q : Seq) : State := (s.pushPass (writeEntry w none)).raise
            { kind := .tailInvalid, initiator := initiatorField w.initiator, seq := q
              extra := BitVec.ofNat 16 s.report.head ++ BitVec.ofNat 16 s.report.tail }
          if low = false ∧ high = false then s.pushPass (writeEntry w none)
          else if low ≠ high then invalid 0
          else if v.toNat < d.reportEntries ∧
              (v.toNat + d.reportEntries - s.report.tail) % d.reportEntries ≤
                (s.report.head + d.reportEntries - s.report.tail) % d.reportEntries then
            { s.pushPass (writeEntry w none) with report := { s.report with tail := v.toNat } }
          else invalid v)

/-! ## Commands -/

/-- RING_ENABLE of a DISABLED ring: ACTIVE, with the enable values of its tracking fields and its roster attached; counters,
berths, holds and jobs are as they were. ATTACH of a DETACHED slot of an ACTIVE ring: ATTACHED, its cursor absent and its
lapped flag clear. COMMAND_DONE. -/
def Obligations.EnableAndAttach : Prop :=
  ∀ (s : State) (w : WriteTx) (r : RingId),
    (s.takesRingCommand w 1 r → s.rings[r].opState = .disabled →
      exec (.ringEnable w) s =
        .next (((s.commanded w).modRing r fun g =>
          { g with
            opState := .active
            tracking := Tracking.rest (if g.profile.groupSize = 1 then .off else .search)
            roster := mapSlots (fun k _ => match g.profile.consumers[k] with
              | some i => ⟨.attached, some i, none, false⟩
              | none => ⟨.vacant, none, none, false⟩) g.roster }).raise (commandDone w (ringField r) 1))) ∧
    ∀ k : SlotId, s.takesRingCommand w 5 r → slotOfByte? (commandOf 0x300 w).slot = some k →
      s.rings[r].opState = .active → s.rings[r].roster[k].state = .detached →
      exec (.attach w) s =
        .next (((s.commanded w).modSlot r k fun c => { c with state := .attached, cursor := none, lapped := false }).raise
          (commandDone w (ringField r) 5))

/-- RING_DISABLE of an ACTIVE ring clears it and leaves it DISABLED, its attached slots DETACHED; RING_RESET of an ACTIVE or
FAULT_HELD ring clears it and leaves it ACTIVE with its enable values. COMMAND_DONE. -/
def Obligations.DisableAndResetClearTheRing : Prop :=
  ∀ (s : State) (w : WriteTx) (r : RingId), s.rings[r].poolBase + s.rings[r].profile.berthCount ≤ 2048 →
    (s.takesRingCommand w 2 r → s.rings[r].opState = .active →
      ∃ t, exec (.ringDisable w) s = .next t ∧ s.clearedTo r t ∧ t.rings[r].opState = .disabled ∧
        t.rings[r].tracking = Tracking.rest .off ∧
        (∀ k : SlotId, t.rings[r].roster[k].state =
          if s.rings[r].roster[k].state = .attached then .detached else s.rings[r].roster[k].state) ∧
        t.port = (s.commanded w).port ∧ t.report = (s.raise (commandDone w (ringField r) 2)).report) ∧
    (s.takesRingCommand w 3 r → s.rings[r].opState ≠ .disabled →
      ∃ t, exec (.ringReset w) s = .next t ∧ s.clearedTo r t ∧ t.rings[r].opState = .active ∧
        t.rings[r].tracking = Tracking.rest (if s.rings[r].profile.groupSize = 1 then .off else .search) ∧
        (∀ k : SlotId, t.rings[r].roster[k].state =
          if s.rings[r].profile.consumers[k].isSome then .attached else .vacant) ∧
        t.port = (s.commanded w).port ∧ t.report = (s.raise (commandDone w (ringField r) 3)).report)

/-- DETACH of an ATTACHED slot, in an ACTIVE or a FAULT_HELD ring: the slot, and no other, leaves every pending set of the
ring; a berth whose set becomes empty is FREE of its generation, and the occupancy falls by the berths that become so; its
initiator's entries in the ring end NOT_READY in arrival order, and its cursor becomes absent; COMMAND_DONE (R80, R84,
R103). -/
def Obligations.DetachTakesTheSlotOut : Prop :=
  ∀ (s : State) (w : WriteTx) (r : RingId) (k : SlotId), s.takesRingCommand w 6 r →
    slotOfByte? (commandOf 0x300 w).slot = some k → s.rings[r].opState ≠ .disabled →
    s.rings[r].roster[k].state = .attached → s.rings[r].poolBase + s.rings[r].profile.berthCount ≤ 2048 →
    let left (i : Nat) : BitVec 4 := (s.ringBerth r i).pendingSet &&& ~~~(1#4 <<< k.val)
    let held (i : Nat) : Bool := (s.ringBerth r i).pendingSet.getLsbD k.val
    ∃ t, exec (.detach w) s = .next t ∧
      t.rings[r].roster[k] = ⟨.detached, s.rings[r].roster[k].initiator, none, false⟩ ∧
      (∀ j : SlotId, j ≠ k → t.rings[r].roster[j] = s.rings[r].roster[j]) ∧
      (∀ i : Nat, i < s.rings[r].profile.berthCount →
        t.ringBerth r i =
          if held i = true then
            if left i = 0 then Berth.free (s.ringBerth r i).generation else { s.ringBerth r i with pendingSet := left i }
          else s.ringBerth r i) ∧
      t.rings[r].occupancy = s.rings[r].occupancy -
        ((List.range s.rings[r].profile.berthCount).filter fun i => held i && left i == 0).length ∧
      (∀ q : RingId, q ≠ r → t.rings[q] = s.rings[q]) ∧
      t.holds = s.holds.filter
        (fun h => !(h.ring == r && s.rings[r].roster[k].initiator == some h.read.initiator)) ∧
      t.responses = s.responses ++
        (s.holds.filter fun h => h.ring == r && s.rings[r].roster[k].initiator == some h.read.initiator).map
          (fun h => ⟨h.read.initiator, h.read.tag, .notReady, []⟩) ∧
      t.rings[r].tracking = s.rings[r].tracking ∧ t.rings[r].opState = s.rings[r].opState ∧
      t.verify = s.verify ∧ t.port = (s.commanded w).port ∧
      t.report = (s.raise (commandDone w (ringField r) 6)).report

/-- A snapshot request, by SNAPSHOT or by PERIOD_TIMER_EXPIRY: with no write-out under way the copy is made and the live
counters begin a new period; with one under way the pending flag is set. SNAPSHOT is COMMAND_DONE either way; the expiry
restarts the timer by the profile's period (R174, R175). -/
def Obligations.SnapshotsCopyOrWait : Prop :=
  ∀ s : State,
    let zeroed : Vector CounterSet 8 :=
      s.rings.map fun g : RingRecord => CounterSet.zero.put .peakOccupancy (BitVec.ofNat 32 g.occupancy)
    let started : ReportEngine :=
      { s.report with
        copy := ⟨s.counters, s.report.period + 1, s.timeBase.now⟩, period := s.report.period + 1
        writeOut := .writing 1 0, lastTurn := .record }
    (∀ w : WriteTx, s.takesCommand w 7 → s.control.device.isSome = true →
      (s.report.writeOut = .idle →
        exec (.snapshot w) s =
          .next ({ s.commanded w with report := started, counters := zeroed }.raise (commandDone w 0xFF 7))) ∧
      (s.report.writeOut ≠ .idle →
        exec (.snapshot w) s =
          .next ({ s.commanded w with report := { s.report with snapshotPending := true } }.raise
            (commandDone w 0xFF 7)))) ∧
    ∀ d : DeviceProfile, s.periodDue = true → s.nothingDue → s.control.device = some d → d.snapshotPeriod ≠ 0 →
      let again : Option Word := some (s.timeBase.now + BitVec.ofNat 32 (d.snapshotPeriod * 1000))
      (s.report.writeOut = .idle →
        exec .periodTimerExpiry s =
          .next { s with report := { started with periodTimer := again }, counters := zeroed }) ∧
      (s.report.writeOut ≠ .idle →
        exec .periodTimerExpiry s =
          .next { s with report := { s.report with snapshotPending := true, periodTimer := again } })

/-- RELOAD with every ring DISABLED: the command unit becomes BUSY and a load begins; no record is raised yet. With a ring that
is not DISABLED it is refused with RINGS_ACTIVE. UNKNOWN_COMMAND: an opcode outside 1..8 is refused with UNKNOWN. Any command is
refused by the first common check that fails: BUSY, UNKNOWN, BAD_RING, NO_PROFILE; a ring command that passes them by the
first line of its rule: RING_INVALID, then BAD_SLOT for ATTACH and DETACH, then STATE or FAULT_HELD by what the ring and the
slot are. The write goes on to memory, the load attention flag is cleared, COMMAND_REFUSED is raised with the reason, and
nothing else changes (R4, R6, R32, R79, R80, R155, R158, R159). -/
def Obligations.ReloadAndRefusedCommands : Prop :=
  (∀ (s : State) (w : WriteTx),
    (s.takesCommand w 8 → (∀ r : RingId, s.rings[r].opState = .disabled) →
      exec (.reload w) s =
        .next ((s.commanded w).modControl fun u =>
          { u with
            unit := .busy
            load := some ⟨.reload w.initiator (commandOf 0x300 w).slot, .reading, [], 0, 0, none, noOffsets, false⟩ })) ∧
    (s.takesCommand w 8 → ∀ r : RingId, s.rings[r].opState ≠ .disabled →
      exec (.reload w) s =
        .next ((s.commanded w).raise
          { kind := .commandRefused, initiator := initiatorField w.initiator, detail := 7
            extra := ((commandOf 0x300 w).slot ++ (8 : Byte)).setWidth 32 })) ∧
    ∀ op : Byte, s.takesCommand w op → (op = 0 ∨ 8 < op.toNat) →
      exec (.unknownCommand w) s =
        .next ((s.commanded w).raise
          { kind := .commandRefused, ring := 0xFF, initiator := initiatorField w.initiator, detail := 2
            extra := ((commandOf 0x300 w).slot ++ op).setWidth 32 })) ∧
  ∀ (i : Instr) (w : WriteTx) (s : State), i.transaction? = some (.write w) → s.takesControlWrite w 0x300 →
    w.length ≤ 8 → s.mayControl w.initiator = true →
    let c := commandOf 0x300 w
    let op := c.opcode.toNat
    let refusedWith (reason : Byte) : Prop :=
      exec i s =
        .next ((s.commanded w).raise
          { kind := .commandRefused, ring := if 1 ≤ op ∧ op ≤ 6 ∧ c.ring.toNat ≤ 7 then c.ring else 0xFF
            initiator := initiatorField w.initiator, detail := reason, extra := (c.slot ++ c.opcode).setWidth 32 })
    (s.control.unit = .busy → refusedWith 1) ∧
    (s.control.unit ≠ .busy →
      (op = 0 ∨ 8 < op → refusedWith 2) ∧
      (1 ≤ op → op ≤ 6 → 7 < c.ring.toNat → refusedWith 3) ∧
      (1 ≤ op → op ≤ 6 ∧ c.ring.toNat ≤ 7 ∨ op = 7 → s.control.device = none → refusedWith 5) ∧
      ∀ r : RingId, c.ring = ringField r → s.control.device.isSome = true →
        let g := s.rings[r]
        (1 ≤ op → op ≤ 6 → g.validity ≠ .valid → refusedWith 6) ∧
        (g.validity = .valid →
          (op = 1 → (g.opState = .active → refusedWith 9) ∧ (g.opState = .faultHeld → refusedWith 8)) ∧
          (op = 2 → (g.opState = .disabled → refusedWith 9) ∧ (g.opState = .faultHeld → refusedWith 8)) ∧
          (op = 3 → g.opState = .disabled → refusedWith 9) ∧
          (op = 4 → (g.opState = .disabled → refusedWith 9) ∧ (g.opState = .faultHeld → refusedWith 8) ∧
            (g.opState = .active → g.tracking.align = .hunt → refusedWith 9)) ∧
          (op = 5 ∨ op = 6 → (3 < c.slot.toNat → refusedWith 4) ∧
            (c.slot.toNat ≤ 3 → g.opState = .disabled → refusedWith 9)) ∧
          ∀ k : SlotId, c.slot.toNat = k.val →
            (op = 5 → (g.opState = .faultHeld → refusedWith 8) ∧
              (g.opState = .active → g.roster[k].state ≠ .detached → refusedWith 9)) ∧
            (op = 6 → g.opState ≠ .disabled → g.roster[k].state ≠ .attached → refusedWith 9)))

/-! ## The memory port -/

/-- ARBITER_GRANT: with room in the in-flight list, the first requesting source after the one granted last is granted: its next
request becomes the last in flight, it becomes the source granted last, and nothing changes but what the issue changes at
the source itself (R112, R126, R128, R129, R152). The Report Engine requests while none of its writes is outstanding, no
load is in its writing phase and a write is due; that write is an owed head word, else, while a snapshot is written out,
the next part in turn with a record write that is due, else the record write, REPORTS_DROPPED ahead of the buffered
records (R165, R166). The sources' cyclic order, when each of the others requests, and the address, the length and the
bytes of every request are as R112, R126, R129, R151 to R153, R162, R163, R173 and R175 give them. -/
def Obligations.GrantGoesToTheNextSource : Prop :=
  (∀ (s : State) (x : Source), s.linkSettled → (s.releasedWaits = false ∨ s.passThroughFree = false) →
      s.port.inFlight.length < 16 → s.port.lastGranted.after.find? s.requests = some x →
      (x = .passThrough → ∃ (before : List PassEntry) (e : PassEntry) (rest : List PassEntry),
        s.port.passThrough = before ++ e :: rest ∧ (∀ d ∈ before, d.issued = true) ∧ e.issued = false ∧
          exec .arbiterGrant s =
            .next { s with
              port := ⟨before ++ { e with issued := true } :: rest, s.port.inFlight ++ [e.request], .passThrough⟩ }) ∧
      (x = .verify → ∃ (j : VerifyJob) (rest : List VerifyJob), s.verify.queue = j :: rest ∧
        exec .arbiterGrant s =
          .next { s with
            port := { s.port with inFlight := s.port.inFlight ++ [s.verifyRequest j], lastGranted := .verify }
            verify := { s.verify with
              queue := { j with
                phase := if s.jobEnd j ≤ s.verify.cursor + min 64 (s.jobEnd j - s.verify.cursor) then .comparing
                  else .reading } :: rest
              cursor := s.verify.cursor + min 64 (s.jobEnd j - s.verify.cursor)
              outstanding := s.verify.outstanding + 1 } }) ∧
      (x = .report → ∃ y : ReportWrite, s.reportNext = some y ∧
        exec .arbiterGrant s =
          .next { s with
            port := { s.port with inFlight := s.port.inFlight ++ [s.reportRequest y], lastGranted := .report }
            report := s.report.issued y }) ∧
      (x = .loader → ∃ (l : Load) (y : LoaderStep), s.control.load = some l ∧ l.next = some y ∧
        exec .arbiterGrant s =
          .next { s with
            port := { s.port with inFlight := s.port.inFlight ++ [s.loaderRequest l y], lastGranted := .loader }
            control := { s.control with load := some (l.stepIssued y) } })) ∧
  ∀ s : State,
    let due : Prop := (∃ d : DeviceProfile, s.control.device = some d ∧
      (s.report.head + d.reportEntries - s.report.tail) % d.reportEntries + 1 < d.reportEntries) ∧
        (s.report.dropped ≠ 0 ∨ s.report.buffer ≠ [])
    let next : ReportWrite := if s.report.dropped ≠ 0 then .dropped s.report.dropped else .record
    (s.requests .report = true ↔
      (∀ q ∈ s.port.inFlight, ∀ y : ReportWrite, q.origin ≠ .report y) ∧
        (∀ l : Load, s.control.load = some l → l.phase = .reading) ∧ s.reportNext ≠ none) ∧
    (s.report.headOwed = true → s.reportNext = some .headWord) ∧
    (s.report.headOwed = false →
      (∀ n k : Nat, s.report.writeOut = .writing n k → n ≤ 9 →
        (due → s.reportNext = if s.report.lastTurn = .record then some (.snapshotPart n) else some next) ∧
        (¬due → s.reportNext = some (.snapshotPart n))) ∧
      ((∀ n k : Nat, s.report.writeOut = .writing n k → 9 < n) →
        (due → s.reportNext = some next) ∧ (¬due → s.reportNext = none))) ∧
    s.report.issued .headWord = s.report ∧
    s.report.issued .record = { s.report with lastTurn := .record, buffer := s.report.buffer.tail } ∧
    (∀ c : Word, s.report.issued (.dropped c) = { s.report with lastTurn := .record, dropped := 0 }) ∧
    (∀ n m k : Nat, s.report.writeOut = .writing m k →
      s.report.issued (.snapshotPart n) = { s.report with lastTurn := .part, writeOut := .writing (n + 1) k }) ∧
    Source.passThrough.after = [.verify, .report, .loader, .passThrough] ∧
    Source.verify.after = [.report, .loader, .passThrough, .verify] ∧
    Source.report.after = [.loader, .passThrough, .verify, .report] ∧
    Source.loader.after = [.passThrough, .verify, .report, .loader] ∧
    (s.requests .passThrough = true ↔ ∃ e ∈ s.port.passThrough, e.issued = false) ∧
    (s.requests .verify = true ↔ s.verify.outstanding < 4 ∧
      ∃ (j : VerifyJob) (rest : List VerifyJob), s.verify.queue = j :: rest ∧ j.phase = .reading) ∧
    (s.requests .loader = true ↔ ∃ l : Load, s.control.load = some l ∧
      (l.phase = .reading ∧ l.result = none ∧ l.issued < 11 ∨ l.phase = .headWord false ∨ l.phase = .statusWord false)) ∧
    (∀ e : PassEntry, e.request = ⟨.passThrough e.initiator e.tag, e.address, e.length,
      match e.body with
      | .read _ => none
      | .write data _ => some data⟩) ∧
    (∀ j : VerifyJob,
      let index := j.berth - s.rings[j.ring].poolBase
      s.jobEnd j = (8 + ((s.berth j.berth).payload.getD 0).toNat + 7) / 8 * 8 + 8 ∧
        s.verifyRequest j = ⟨.verify j.ring j.berth index j.generation,
          BitVec.ofNat 36 (s.rings[j.ring].profile.windowBase.toNat +
            index * 2 ^ s.rings[j.ring].profile.sizeExponent + s.verify.cursor),
          min 64 (s.jobEnd j - s.verify.cursor), none⟩) ∧
    let at36 (offset : Nat) : Addr := BitVec.ofNat 36 (s.pins.ctlsel.toNat * 2 ^ 32 + 2 ^ 32 - 4096 + offset)
    let half (v : BitVec 16) : List Byte := [v.extractLsb' 0 8, v.extractLsb' 8 8]
    let word (v : Word) : List Byte := [v.extractLsb' 0 8, v.extractLsb' 8 8, v.extractLsb' 16 8, v.extractLsb' 24 8]
    let layout (c : Record) : List Byte :=
      [BitVec.ofNat 8 c.kind.code, c.ring] ++ half c.berth ++ half c.seq ++ [c.initiator, c.detail] ++ word c.time ++
        word c.extra
    s.reportRequest .headWord = ⟨.report .headWord, at36 0x310, 8,
      some (half (BitVec.ofNat 16 s.report.head) ++ [0, 0, 0, 0, 0, 0])⟩ ∧
    (∀ d : DeviceProfile, s.control.device = some d →
      let place : Addr := BitVec.ofNat 36 (d.reportBase.toNat + 16 * s.report.head)
      (∀ (c : Record) (rest : List Record), s.report.buffer = c :: rest →
        s.reportRequest .record = ⟨.report .record, place, 16, some (layout c)⟩) ∧
      ∀ n : Word, s.reportRequest (.dropped n) = ⟨.report (.dropped n), place, 16, some (layout
        { kind := .reportsDropped, ring := 0xFF, berth := 0, seq := 0, initiator := 0xFF, detail := 0
          time := s.timeBase.now, extra := n })⟩) ∧
    (∀ r : RingId, s.reportRequest (.snapshotPart (r.val + 1)) = ⟨.report (.snapshotPart (r.val + 1)),
      at36 (0x800 + 64 * r.val), 64, some (s.report.copy.counters[r].values.toList.flatMap word)⟩) ∧
    s.reportRequest (.snapshotPart 9) = ⟨.report (.snapshotPart 9), at36 0xA00, 40,
      some ((s.report.copy.counters.toList.flatMap fun k : CounterSet => half k.overflow ++ [0, 0]) ++
        word s.report.copy.period ++ word s.report.copy.time)⟩ ∧
    ∀ l : Load,
      (l.phase = .reading → l.result = none → l.issued < 11 → l.next = some (.readBlock l.issued)) ∧
      (l.phase = .headWord false → l.next = some .headWord) ∧ (l.phase = .statusWord false → l.next = some .statusWord) ∧
      (∀ k : Nat, l.stepIssued (.readBlock k) = { l with issued := l.issued + 1 } ∧
        s.loaderRequest l (.readBlock k) = ⟨.loader (.readBlock k), at36 (64 * k), 64, none⟩) ∧
      l.stepIssued .headWord = { l with phase := .headWord true } ∧
      l.stepIssued .statusWord = { l with phase := .statusWord true } ∧
      s.loaderRequest l .headWord = ⟨.loader .headWord, at36 0x310, 8, some [0, 0, 0, 0, 0, 0, 0, 0]⟩ ∧
      ∀ result : LoadResult, l.result = some result →
        ∃ valid enabled : Byte,
          s.loaderRequest l .statusWord = ⟨.loader .statusWord, at36 0x308, 8,
            some ([match result with
              | .accepted => 1
              | .rejectedCheck => 2
              | .rejectedDevice => 3
              | .memoryFault => 4, valid, enabled,
              match l.kind with
              | .startUp => 1
              | .reload _ _ => 2] ++ word (s.control.loadCount + 1))⟩ ∧
          ∀ r : RingId,
            (valid.getLsbD r.val = true ↔
              if result = .accepted then l.verdict[r].isSome = true else s.rings[r].validity = .valid) ∧
            (enabled.getLsbD r.val = true ↔
              result = .accepted ∧ l.verdict[r].isSome = true ∧ (byteAt l.image 6).getLsbD r.val = true)

/-- RELEASED_READ_ENTRY: the oldest released read takes a free entry, last in the pass-through queue, and its place becomes free,
whatever entries wait in places before it; the port then accepts what it may. At the end of an event that released reads,
these follow the released reads that waited already, in arrival order, ahead of the entries; the oldest take the free
entries of the pass-through queue, as far as those allow, and the others wait in their places. The end of an event that
released none changes nothing (R99, R100). -/
def Obligations.ReleasedReadsEnterTheQueue : Prop :=
  (∀ (s : State) (before : List HoldPlace) (h : HoldPlace) (rest : List HoldPlace) (o : ReadOutcome),
    s.holds = before ++ h :: rest → (∀ e ∈ before, e.released = none) → h.released = some o →
    s.port.passThrough.length < 32 →
    exec .releasedReadEntry s =
      .next (State.drainLink { s with
        holds := before ++ rest, port := { s.port with passThrough := s.port.passThrough ++ [readEntry h.read o] } })) ∧
  ∀ s t : State,
    let reads (u : State) : List HoldPlace := u.holds.filter fun h => h.released.isSome
    let free := 32 - t.port.passThrough.length
    ((reads t).length ≤ (reads s).length → s.settleReleases t = t) ∧
    ((reads s).length < (reads t).length → s.settleReleases t =
      { t with
        holds := (reads t).drop free ++ t.holds.filter fun h => h.released.isNone
        port := { t.port with
          passThrough := t.port.passThrough ++
            ((reads t).take free).map fun h => readEntry h.read (h.released.getD .okay) } }) ∧
    ∀ (old new : List HoldPlace), (∀ h ∈ old, h.released.isSome = true) → (∀ h ∈ new, h.released = none) →
      s.holds = old ++ new → ∀ f : HoldPlace → HoldPlace, t.holds = old ++ new.map f →
        reads t = old ++ (new.map f).filter fun h => h.released.isSome

/-- PASS_THROUGH_COMPLETION: the oldest request's entry is freed and its transaction answered OKAY or POISONED with the
data of a read, the first Length bytes of the beat (log entry 6), or MEMFAULT without data and with the MEMORY_FAULT
record, whose fields are those of R131; the port then accepts what it may. -/
def Obligations.PassThroughCompletionAnswers : Prop :=
  (∀ (s : State) (q : Request) (rest : List Request) (i : Initiator) (g : Tag) (e : PassEntry),
    s.port.inFlight = q :: rest → q.origin = .passThrough i g → s.port.entry? i g = some e → e.tracked? = none → s.nothingDue →
    (∀ data : List Byte, exec (.passThroughCompletion (.okay data)) s =
      .next (State.drainLink { s with
        port := { s.port with passThrough := s.port.passThrough.erase e, inFlight := rest }
        responses := s.responses ++ [match e.body with
          | .read .okay => ⟨e.initiator, e.tag, .okay, data.take e.length⟩
          | .read .poisoned => ⟨e.initiator, e.tag, .poisoned, data.take e.length⟩
          | .write _ _ => ⟨e.initiator, e.tag, .okay, []⟩] })) ∧
    exec (.passThroughCompletion .memfault) s =
      .next (State.drainLink (State.raise (e.faultRecord (s.classify e.address)) { s with
        port := { s.port with passThrough := s.port.passThrough.erase e, inFlight := rest }
        responses := s.responses ++ [⟨e.initiator, e.tag, .memfault, []⟩] }))) ∧
  ∀ (e : PassEntry) (a : Area), e.faultRecord a =
    { kind := .memoryFault
      ring := match a with
        | .window r _ _ => ringField r
        | .control _ => 0xFF
        | .reportRing => 0xFF
        | .range _ => 0xFF
        | .plain => 0xFF
      berth := match a with
        | .window _ index _ => BitVec.ofNat 16 index
        | .control _ => 0
        | .reportRing => 0
        | .range _ => 0
        | .plain => 0
      seq := 0, initiator := initiatorField e.initiator
      detail := match e.body with
        | .read _ => 1
        | .write _ _ => 2
      extra := BitVec.ofNat 32 (e.address.toNat / 64) }

/-- TRACKED_WRITE_COMPLETION without fault: the writer is answered OKAY. A completion of another generation changes no berth.
One of its berth's generation lowers the writes outstanding of a FILLING, SETTLING or DAMAGED berth by 1, and a SETTLING
berth that had 1 is handed on; one that finds the berth FREE changes no berth (R51, R52). -/
def Obligations.TrackedCompletionByGeneration : Prop :=
  ∀ (s : State) (q : Request) (rest : List Request) (i : Initiator) (g : Tag) (e : PassEntry) (x : TrackTag) (b : Nat),
    s.port.inFlight = q :: rest → q.origin = .passThrough i g → s.port.entry? i g = some e → e.tracked? = some x →
    s.nothingDue → x.berth = s.poolIndex x.ring b →
    let answered : State := { s with
      port := { s.port with passThrough := s.port.passThrough.erase e, inFlight := rest }
      responses := s.responses ++ [⟨e.initiator, e.tag, .okay, []⟩] }
    let lowered := answered.modBerth x.berth fun c => { c with outstanding := c.outstanding - 1 }
    ((s.berth x.berth).generation ≠ x.generation ∨ (s.berth x.berth).state = .free →
      exec (.trackedWriteCompletion false) s = .next answered.drainLink) ∧
    ((s.berth x.berth).generation = x.generation →
      (s.berth x.berth).state = .filling ∨ (s.berth x.berth).state = .damaged ∨
        (s.berth x.berth).state = .settling ∧ 2 ≤ (s.berth x.berth).outstanding →
      exec (.trackedWriteCompletion false) s = .next lowered.drainLink) ∧
    ((s.berth x.berth).generation = x.generation → (s.berth x.berth).state = .settling →
      (s.berth x.berth).outstanding = 1 → x.berth < 2048 →
      exec (.trackedWriteCompletion false) s = .next (s.settleReleases (lowered.settled x.ring b)).drainLink)

/-- TRACKED_WRITE_COMPLETION with MEMFAULT: the writer is answered MEMFAULT and MEMORY_FAULT is raised, its ring and berth those
of the address now (log entry 26). A completion of another generation changes no berth. One of its berth's generation
lowers the writes outstanding of a FILLING, SETTLING or DAMAGED berth; a FILLING or SETTLING berth is DAMAGED with
MEMORY_FAULT; a FREE berth stays. In each of these states an ACTIVE ring under strict then enters FAULT_HELD with cause
MEMORY_FAULT, and any other ring stays as it is (R51, R53, R130, R131, R139, R140). -/
def Obligations.TrackedFaultDamagesTheBerth : Prop :=
  ∀ (s : State) (q : Request) (rest : List Request) (i : Initiator) (g : Tag) (e : PassEntry) (x : TrackTag) (b : Nat),
    s.port.inFlight = q :: rest → q.origin = .passThrough i g → s.port.entry? i g = some e → e.tracked? = some x →
    s.nothingDue → x.berth = s.poolIndex x.ring b → x.berth < 2048 →
    let old := s.berth x.berth
    let ring := s.rings[x.ring]
    let answered : State := State.raise (e.faultRecord (s.classify e.address)) { s with
      port := { s.port with passThrough := s.port.passThrough.erase e, inFlight := rest }
      responses := s.responses ++ [⟨e.initiator, e.tag, .memfault, []⟩] }
    let lowered := answered.modBerth x.berth fun c => { c with outstanding := c.outstanding - 1 }
    let filled : Prop := old.state = .filling ∨ old.state = .settling
    (old.generation ≠ x.generation → exec (.trackedWriteCompletion true) s = .next answered.drainLink) ∧
    ∀ applied : State, old.generation = x.generation →
      (filled ∧ applied = lowered.damage x.ring b .memoryFault ∨ old.state = .damaged ∧ applied = lowered ∨
        old.state = .free ∧ applied = answered) →
      (ring.profile.strict = false ∨ ring.opState ≠ .active →
        exec (.trackedWriteCompletion true) s = .next (s.settleReleases applied).drainLink) ∧
      (ring.profile.strict = true → ring.opState = .active → s.ringSound x.ring →
        ∃ t : State, exec (.trackedWriteCompletion true) s = .next (s.settleReleases t).drainLink ∧
          applied.heldTo x.ring 30 b (initiatorField e.initiator) t) ∧
      (filled → old.damage = none →
        applied.berth x.berth = ring.published .damaged
            { old with outstanding := old.outstanding - 1, damage := some .memoryFault } ∧
          applied.report = (answered.raise (damagedRecord x.ring b .memoryFault old)).report ∧
          applied.rings[x.ring].tracking = ring.tracking ∧ applied.port = answered.port)

/-- VERIFY_READ_COMPLETION: the count of outstanding reads falls whatever the completion holds. A stale OKAY changes nothing
more, and a stale MEMFAULT raises MEMORY_FAULT alone; an applied OKAY that is not the try's last feeds its data, the first
bytes of the beat as many as the read's length (log entry 6). The record's berth index is the one kept with the request at
its issue (log entry 7) (R113, R131). -/
def Obligations.VerifyCompletionFeedsTheTry : Prop :=
  ∀ (s : State) (q : Request) (rest : List Request) (r : RingId) (p n : Nat) (g : BitVec 8) (data : List Byte),
    s.port.inFlight = q :: rest → q.origin = .verify r p n g → s.nothingDue →
    ((∀ j, s.verify.queue.head? = some j → ¬(j.berth = p ∧ j.generation = g)) →
      exec (.verifyReadCompletion (.okay data)) s =
        .next { s with
          port := { s.port with inFlight := rest }
          verify := { s.verify with outstanding := s.verify.outstanding - 1 } } ∧
      exec (.verifyReadCompletion .memfault) s =
        .next (State.raise
          { kind := .memoryFault, ring := ringField r, berth := berthField n, initiator := 0xFF, detail := 3
            extra := BitVec.ofNat 32 (q.address.toNat / 64) }
          { s with
            port := { s.port with inFlight := rest }
            verify := { s.verify with outstanding := s.verify.outstanding - 1 } })) ∧
    (∀ j, s.verify.queue.head? = some j → j.berth = p → j.generation = g →
      q.address.toNat % s.rings[j.ring].profile.berthSize + q.length ≠ s.jobEnd j →
      exec (.verifyReadCompletion (.okay data)) s =
        .next { s with
          port := { s.port with inFlight := rest }
          verify := VerifyEngine.feed ((s.berth p).payload.getD 0)
            (q.address.toNat % s.rings[j.ring].profile.berthSize) (data.take q.length)
            { s.verify with outstanding := s.verify.outstanding - 1 } })

/-- The try's last read, fed with the first bytes of the beat as many as its length (log entry 6), ends the try. It passes when the recomputed check is the captured check code, the tail pattern
is correct and the check is the one that the seal kept: the job leaves the queue and the berth goes to the publication step.
A try that fails is counted and begun again while tries remain, and else damages the berth with VERIFY_FAILED. A MEMFAULT of
an applied read raises MEMORY_FAULT, damages the berth with MEMORY_FAULT and under strict holds the ring. The next job is
then active (R112, R114 to R117). -/
def Obligations.VerifyTryEnds : Prop :=
  ∀ (s : State) (q : Request) (rest : List Request) (j : VerifyJob) (jobs : List VerifyJob) (r : RingId) (n b : Nat),
    s.port.inFlight = q :: rest → q.origin = .verify r j.berth n j.generation → s.verify.queue = j :: jobs →
    s.nothingDue → j.berth = s.poolIndex j.ring b → j.berth < 2048 →
    let old := s.berth j.berth
    let lowered : State := { s with
      port := { s.port with inFlight := rest }, verify := { s.verify with outstanding := s.verify.outstanding - 1 } }
    (∀ data : List Byte, q.address.toNat % s.rings[j.ring].profile.berthSize + q.length = s.jobEnd j →
      let fed := VerifyEngine.feed (old.payload.getD 0) (q.address.toNat % s.rings[j.ring].profile.berthSize)
        (data.take q.length) lowered.verify
      let done := crcComplete fed.check
      let passes : Prop := done = tailCheckCode fed.tail ∧
        tailPatternOk s.rings[j.ring].profile.sync fed.tail = true ∧ done = old.check
      (passes →
        exec (.verifyReadCompletion (.okay data)) s =
          .next (s.settleReleases ((State.publicationStep j.ring b { lowered with
            verify := { fed with queue := (j :: jobs).filter (·.berth != j.berth) } }).modVerify
              VerifyEngine.activate)).drainLink) ∧
      (¬passes → j.tries < s.rings[j.ring].profile.verifyTries →
        exec (.verifyReadCompletion (.okay data)) s =
          .next { lowered with
            counters := (s.count j.ring .verifyRetries).counters
            verify := { fed with
              queue := { j with tries := j.tries + 1, phase := .reading } :: jobs
              cursor := 0, check := crcInit, tail := emptyTail } }) ∧
      (¬passes → s.rings[j.ring].profile.verifyTries ≤ j.tries →
        exec (.verifyReadCompletion (.okay data)) s =
          .next (s.settleReleases ((State.damage j.ring b .verifyFailed { lowered with verify := fed }).modVerify
            VerifyEngine.activate)).drainLink)) ∧
    exec (.verifyReadCompletion .memfault) s =
      .next (s.settleReleases ((((State.raise
        { kind := .memoryFault, ring := ringField r, berth := berthField n, initiator := 0xFF, detail := 3
          extra := BitVec.ofNat 32 (q.address.toNat / 64) } lowered).damage j.ring b .memoryFault).faultHold j.ring
          .memoryFault b 0xFF).modVerify VerifyEngine.activate)).drainLink

/-- REPORT_WRITE_COMPLETION of a record or a head word: a record written advances head by 1 modulo entries and owes the head
word, and one that faulted is counted as dropped; a head word written is no longer owed, and one that faulted stays owed.
REPORTS_DROPPED advances head too, and one that faulted adds the count it carried back. Of a snapshot part a fault is
counted; the last part ends the write-out with SNAPSHOT_DONE, and a pending snapshot then starts (R163, R165, R166, R174,
R175). -/
def Obligations.ReportCompletionMovesHead : Prop :=
  ∀ (s : State) (q : Request) (rest : List Request) (d : DeviceProfile),
    s.port.inFlight = q :: rest → s.control.device = some d → s.nothingDue →
    (q.origin = .report .record →
      exec (.reportWriteCompletion false) s =
        .next { s with
          port := { s.port with inFlight := rest }
          report := { s.report with head := (s.report.head + 1) % d.reportEntries, headOwed := true } } ∧
      exec (.reportWriteCompletion true) s =
        .next { s with
          port := { s.port with inFlight := rest }
          report := { s.report with dropped := saturatingAdd s.report.dropped 1 } }) ∧
    (q.origin = .report .headWord →
      exec (.reportWriteCompletion false) s =
        .next { s with
          port := { s.port with inFlight := rest }, report := { s.report with headOwed := false } } ∧
      exec (.reportWriteCompletion true) s = .next { s with port := { s.port with inFlight := rest } }) ∧
    (∀ c : Word, q.origin = .report (.dropped c) →
      exec (.reportWriteCompletion false) s =
        .next { s with
          port := { s.port with inFlight := rest }
          report := { s.report with head := (s.report.head + 1) % d.reportEntries, headOwed := true } } ∧
      exec (.reportWriteCompletion true) s =
        .next { s with
          port := { s.port with inFlight := rest }
          report := { s.report with
            dropped := if s.report.dropped.toNat + c.toNat < 2 ^ 32 then s.report.dropped + c else 0xFFFFFFFF } }) ∧
    ∀ (part n k : Nat) (fault : Bool), q.origin = .report (.snapshotPart part) → s.report.writeOut = .writing n k →
      let faults := if fault then k + 1 else k
      let done : State := State.offer
        { kind := .snapshotDone, initiator := 0xFF, detail := BitVec.ofNat 8 faults, time := s.report.copy.time
          extra := s.report.copy.period }
        { s with port := { s.port with inFlight := rest }, report := { s.report with writeOut := .idle } }
      (part ≠ 9 →
        exec (.reportWriteCompletion fault) s =
          .next { s with
            port := { s.port with inFlight := rest }, report := { s.report with writeOut := .writing n faults } }) ∧
      (part = 9 → s.report.snapshotPending = false → exec (.reportWriteCompletion fault) s = .next done) ∧
      (part = 9 → s.report.snapshotPending = true →
        exec (.reportWriteCompletion fault) s =
          .next { done with
            report := { done.report with
              snapshotPending := false, copy := ⟨s.counters, s.report.period + 1, s.timeBase.now⟩
              period := s.report.period + 1, writeOut := .writing 1 0, lastTurn := .record }
            counters := s.rings.map fun g : RingRecord =>
              CounterSet.zero.put .peakOccupancy (BitVec.ofNat 32 g.occupancy) })

/-- LOADER_READ_COMPLETION: the data of a profile read, 64 bytes of the beat (log entry 6), is kept in the image, and after the
last the image is judged: the check word first, then the device profile; an accepted image gives its rings their offsets, and the writing phase begins. A fault
decides the result MEMORY_FAULT; later data is discarded, and the writing phase begins when no read is outstanding (R148,
R149, R152). -/
def Obligations.ProfileReadsFillTheImage : Prop :=
  ∀ (s : State) (q : Request) (rest : List Request) (k : Nat) (l : Load) (data : List Byte),
    s.port.inFlight = q :: rest → q.origin = .loader (.readBlock k) → s.control.load = some l → s.nothingDue →
    let left (next : Load) : State := { s with
      port := { s.port with inFlight := rest }, control := { s.control with load := some next } }
    let taken : Load := { l with completed := l.completed + 1, image := l.image ++ data.take 64 }
    let ended (next : Load) : Load :=
      { next with
        completed := l.completed + 1
        phase := if l.completed + 1 = l.issued then .statusWord false else l.phase }
    (l.result = none → l.completed + 1 ≠ 11 → exec (.loaderReadCompletion (.okay data)) s = .next (left taken)) ∧
    (l.result = none → l.completed + 1 = 11 →
      exec (.loaderReadCompletion (.okay data)) s =
        .next (left (
          if crcOf (taken.image.take 0x280) ≠ le32At taken.image 0x280 then
            { taken with result := some .rejectedCheck, phase := .statusWord false }
          else if deviceOk s.pins.ctlsel taken.image = false then
            { taken with result := some .rejectedDevice, phase := .statusWord false }
          else
            { taken with
              result := some .accepted, verdict := validOffsets s.pins.ctlsel taken.image, phase := .headWord false }))) ∧
    (l.result ≠ none → exec (.loaderReadCompletion (.okay data)) s = .next (left (ended l))) ∧
    exec (.loaderReadCompletion .memfault) s = .next (left (ended { l with result := some .memoryFault }))

/-- The device profile and the four range entries of an image are good exactly when none of the lines of R149 holds. Each ring
profile is judged after those before it, and is valid exactly when none of the lines of R150 holds: it then receives the
running sum as its pool offset, and its window and its berth count join those of the valid rings. The profiles that a load
puts in force hold the image's fields by the layout of R147; an alternate producer equal to the primary is none (R14). -/
def Obligations.ImagesAreJudged : Prop :=
  ∀ (ctlsel : BitVec 4) (image : List Byte),
    let initiatorOk (v : Byte) : Prop := v.toNat < 64 ∨ v = 0xFF
    let clear (a c : Nat × Nat) : Prop := a.2 ≤ c.1 ∨ c.2 ≤ a.1
    (deviceOk ctlsel image = true ↔
      le16At image 0 = 0x5748 ∧ byteAt image 2 = 1 ∧ byteAt image 3 ≠ 0 ∧ (byteAt image 4).toNat < 64 ∧
        initiatorOk (byteAt image 5) ∧ (le64At image 8).toNat % 4096 = 0 ∧
        (le64At image 8).toNat + 16 * (le16At image 16).toNat ≤ 2 ^ 36 ∧
        (∃ n : Nat, 6 ≤ n ∧ n ≤ 12 ∧ (le16At image 16).toNat = 2 ^ n) ∧
        ((le16At image 18).toNat = 0 ∨ 10 ≤ (le16At image 18).toNat ∧ (le16At image 18).toNat ≤ 60000) ∧
        (∀ n : SlotId, rangeSize image n ≤ 65536 ∧ (rangeSize image n ≠ 0 →
          (le64At image (0x40 + 16 * n.val)).toNat % 4096 = 0 ∧ initiatorOk (byteAt image (0x40 + 16 * n.val + 12)) ∧
            (le64At image (0x40 + 16 * n.val)).toNat + 4096 * rangeSize image n ≤ 2 ^ 36)) ∧
        (deviceExtents ctlsel image).Pairwise clear) ∧
    (validOffsets ctlsel image =
      (allRings.foldl (Verdict.judge image) ⟨noOffsets, deviceExtents ctlsel image, 0⟩).offsets) ∧
    ∀ (v : Verdict) (r : RingId),
      let o := 0x80 + 64 * r.val
      let count := (le16At image (o + 14)).toNat
      let size := 2 ^ (byteAt image (o + 13)).toNat
      let base := (le64At image (o + 16)).toNat
      let group := (byteAt image (o + 10)).toNat
      let consumer (k : SlotId) : Byte := byteAt image (o + 6 + k.val)
      let valid : Prop :=
        (byteAt image o).getLsbD 0 = true ∧ (byteAt image (o + 1)).extractLsb' 0 2 ≠ 0 ∧
          (byteAt image (o + 4)).toNat < 64 ∧ initiatorOk (byteAt image (o + 5)) ∧
          (∀ k : SlotId, initiatorOk (consumer k)) ∧ 1 ≤ group ∧ group ≤ 16 ∧ group ≤ count ∧
          1 ≤ (byteAt image (o + 11)).toNat ∧ (byteAt image (o + 11)).toNat ≤ 4 ∧
          7 ≤ (byteAt image (o + 13)).toNat ∧ (byteAt image (o + 13)).toNat ≤ 14 ∧ 4 ≤ count ∧ count ≤ 512 ∧
          base % size = 0 ∧ base + count * size ≤ 2 ^ 36 ∧ (∀ a ∈ v.taken, clear (base, base + count * size) a) ∧
          (∀ k : SlotId, consumer k ≠ 0xFF →
            consumer k ≠ byteAt image (o + 4) ∧ consumer k ≠ byteAt image (o + 5) ∧
              ∀ m : SlotId, m ≠ k → consumer m ≠ consumer k) ∧ v.sum + count ≤ 2048
      (valid → v.judge image r =
        ⟨v.offsets.set r.val (some v.sum), (base, base + count * size) :: v.taken, v.sum + count⟩) ∧
      (¬valid → v.judge image r = v) ∧
      let bit (k n : Nat) : Bool := (byteAt image (o + k)).getLsbD n
      let optional (b : Byte) : Option Initiator := if b = 0xFF then none else some (b.setWidth 6)
      let primary : Initiator := (byteAt image (o + 4)).setWidth 6
      ringProfileOf image r =
        { windowBase := (le64At image (o + 16)).setWidth 36, sizeExponent := (byteAt image (o + 13)).toNat
          berthCount := count, sync := le16At image (o + 2), primary := primary
          alternate := if optional (byteAt image (o + 5)) = some primary then none else optional (byteAt image (o + 5))
          consumers := #v[optional (byteAt image (o + 6)), optional (byteAt image (o + 7)), optional (byteAt image (o + 8)),
            optional (byteAt image (o + 9))]
          verify := bit 0 1, strict := bit 0 2, keepSearching := bit 0 3, abandonOnQuiet := bit 0 4
          reframeOnExcess := bit 0 5, poisonDamaged := bit 0 6, overrun := if bit 0 7 then .reclaim else .block
          confirmCount := (if bit 1 0 then 1 else 0) + if bit 1 1 then 2 else 0
          lockRule := if bit 1 2 then .leadOrSequence else .leadOnly
          publishMode := if bit 1 3 then .group else .berth, groupSize := group
          verifyTries := (byteAt image (o + 11)).toNat, excessThreshold := (byteAt image (o + 12)).toNat
          holdLimit := le16At image (o + 24), quietLimit := le16At image (o + 26) } ∧
      let range (n : Nat) : Option ProtectRange :=
        if le32At image (0x48 + 16 * n) = 0 then none
        else some ⟨(le64At image (0x40 + 16 * n)).setWidth 36, (le32At image (0x48 + 16 * n)).toNat,
          optional (byteAt image (0x4C + 16 * n))⟩
      deviceOf image =
        { divisor := (byteAt image 3).toNat, controlA := (byteAt image 4).setWidth 6
          controlB := optional (byteAt image 5), enableMask := byteAt image 6, interruptEnable := (byteAt image 7).getLsbD 0
          reportBase := (le64At image 8).setWidth 36, reportEntries := (le16At image 16).toNat
          snapshotPeriod := (le16At image 18).toNat, eventMask := le32At image 20
          ranges := #v[range 0, range 1, range 2, range 3] } ∧
      ∀ k : Nat, le16At image k = byteAt image (k + 1) ++ byteAt image k ∧
        le32At image k = byteAt image (k + 3) ++ byteAt image (k + 2) ++ byteAt image (k + 1) ++ byteAt image k ∧
        le64At image k = byteAt image (k + 7) ++ byteAt image (k + 6) ++ byteAt image (k + 5) ++ byteAt image (k + 4) ++
          byteAt image (k + 3) ++ byteAt image (k + 2) ++ byteAt image (k + 1) ++ byteAt image k

/-- LOADER_WRITE_COMPLETION of an accepted load's status word commits it: the profile takes effect, every pool record is
FREE one generation on, the rings take their validity, their roster is rebuilt, and those that are flagged are enabled,
the others DISABLED. The report ring begins anew, and the records in the buffer are discarded and counted as dropped; the
period timer starts, or stops for a period of 0. LOAD_DONE is raised, and after it the RELOAD's COMMAND_DONE, under the new
profile. The port then accepts what it may (R2, R3, R7, R78, R153, R154, R159, R160, R163, R174; that the load count wraps:
log entry 30). -/
def Obligations.AcceptedLoadIsCommitted : Prop :=
  ∀ (s : State) (q : Request) (rest : List Request) (l : Load),
    s.port.inFlight = q :: rest → q.origin = .loader .statusWord → s.control.load = some l →
    l.result = some .accepted → (∀ h ∈ s.holds, h.waiting = false) → s.nothingDue → s.withinCapacity →
    let d := deviceOf l.image
    let enabled (r : RingId) : Prop := l.verdict[r].isSome = true ∧ d.enableMask.getLsbD r.val = true
    let loadDone (writer : Byte) : Record :=
      { kind := .loadDone, ring := 0xFF, berth := 0, seq := 0, initiator := writer, detail := 1
        extra := s.control.loadCount + 1 }
    let begun : State := { s with
      control := ⟨some d, .idle, s.control.loadCount + 1, false, none⟩
      report := { s.report with
        head := 0, tail := 0, headOwed := false, buffer := []
        dropped := if s.report.dropped.toNat + s.report.buffer.length < 2 ^ 32
          then s.report.dropped + BitVec.ofNat 32 s.report.buffer.length else 0xFFFFFFFF
        periodTimer := if d.snapshotPeriod = 0 then none
          else some (s.timeBase.now + BitVec.ofNat 32 (d.snapshotPeriod * 1000)) } }
    ∃ t : State, exec (.loaderWriteCompletion false) s = .next t.drainLink ∧ t.control = begun.control ∧
      t.report = (match l.kind with
        | .startUp => begun.raise (loadDone 0xFF)
        | .reload writer slot => (begun.raise (loadDone (initiatorField writer))).raise
          { kind := .commandDone, initiator := initiatorField writer, extra := (slot ++ (8 : Byte)).setWidth 32 }).report ∧
      (∀ p : Nat, p < 2048 → t.berth p = Berth.free ((s.berth p).generation + 1)) ∧
      (∀ r : RingId, t.rings[r].profile = ringProfileOf l.image r ∧ t.rings[r].poolOffset = l.verdict[r] ∧
        t.rings[r].validity = (if l.verdict[r].isSome then .valid else .invalid) ∧ t.rings[r].occupancy = 0 ∧
        t.rings[r].tailCapture = emptyTail ∧
        (enabled r → t.rings[r].opState = .active ∧
          t.rings[r].tracking = Tracking.rest (if (ringProfileOf l.image r).groupSize = 1 then .off else .search)) ∧
        (¬enabled r → t.rings[r].opState = .disabled ∧ t.rings[r].tracking = Tracking.rest .off) ∧
        ∀ k : SlotId,
          (l.verdict[r] = none → t.rings[r].roster[k] = ⟨.vacant, none, none, false⟩) ∧
          ((ringProfileOf l.image r).consumers[k] = none → t.rings[r].roster[k] = ⟨.vacant, none, none, false⟩) ∧
          ∀ i : Initiator, l.verdict[r].isSome = true → (ringProfileOf l.image r).consumers[k] = some i →
            (enabled r → t.rings[r].roster[k] = ⟨.attached, some i, none, false⟩) ∧
            (¬enabled r → t.rings[r].roster[k] = ⟨.detached, some i, none, false⟩)) ∧
      t.verify.queue = [] ∧ t.verify.outstanding = s.verify.outstanding ∧
      t.timeBase = { s.timeBase with divisor := d.divisor } ∧ t.counters = s.counters ∧ t.holds = s.holds ∧
      t.responses = s.responses ∧ t.pins = s.pins ∧ t.episode = s.episode ∧ t.link = s.link ∧
      t.port = { s.port with inFlight := rest }

/-- LOADER_WRITE_COMPLETION of the head word: the status word is next, and a fault makes the result MEMORY_FAULT. Of the status
word of a load that is rejected, or accepted but whose status word write faulted: the load count rises by 1, wrapping (log
entry 30), the unit is IDLE and the profile in force stays; a head word that the load had written is owed again; a start-up
load sets the load attention flag; a RELOAD raises LOAD_DONE with the rejection (its fields: log entry 16) and
COMMAND_DONE. The port then accepts what it may (R153, R155). -/
def Obligations.LoaderWritesAndRejectedLoads : Prop :=
  ∀ (s : State) (q : Request) (rest : List Request) (l : Load) (fault : Bool),
    s.port.inFlight = q :: rest → s.control.load = some l → s.nothingDue →
    (q.origin = .loader .headWord →
      exec (.loaderWriteCompletion fault) s =
        .next { s with
          port := { s.port with inFlight := rest }
          control := { s.control with
            load := some { l with
              phase := .statusWord false, headWritten := true
              result := if fault then some .memoryFault else l.result } } }) ∧
    (q.origin = .loader .statusWord → (l.result = some .accepted → fault = true) →
      let code : Byte := match l.result with
        | some .accepted => 4
        | some .rejectedCheck => 2
        | some .rejectedDevice => 3
        | some .memoryFault => 4
        | none => 0
      let ended (attention : Bool) : State := { s with
        port := { s.port with inFlight := rest }
        control := ⟨s.control.device, .idle, s.control.loadCount + 1, attention, none⟩
        report := if l.headWritten then { s.report with headOwed := true } else s.report }
      (l.kind = .startUp → exec (.loaderWriteCompletion fault) s = .next (ended true).drainLink) ∧
      ∀ (writer : Initiator) (slot : Byte), l.kind = .reload writer slot →
        exec (.loaderWriteCompletion fault) s =
          .next (((ended s.control.attention).raise
            { kind := .loadDone, initiator := initiatorField writer, detail := code
              extra := s.control.loadCount + 1 }).raise
            { kind := .commandDone, initiator := initiatorField writer
              extra := (slot ++ (8 : Byte)).setWidth 32 }).drainLink)

/-! ## Expiries -/

/-- QUIET_TIMER_EXPIRY with the flag clear: PRODUCER_QUIET is raised, the flag is set and the timer stops; then, under
abandon-on-quiet, a FILLING current berth is abandoned. With the flag set, the timer stops and nothing else happens (R38;
the record's seq when the current berth is FREE is log entry 29). -/
def Obligations.QuietExpiryReportsOnce : Prop :=
  ∀ (s : State) (r : RingId), s.quietDue r = true → s.nothingDue →
    (s.rings[r].tracking.quietFlag = true →
      exec (.quietTimerExpiry r) s = .next (s.modTracking r fun t => { t with quietTimer := none })) ∧
    (s.rings[r].tracking.quietFlag = false →
      let reported := (s.modTracking r fun t => { t with quietTimer := none, quietFlag := true }).raise
        { kind := .producerQuiet, ring := ringField r, berth := berthField (s.rings[r].tracking.current.getD 0)
          seq := seqField (s.ringBerth r (s.rings[r].tracking.current.getD 0)) }
      ((s.rings[r].profile.abandonOnQuiet = false ∨ s.fillingCurrent r = none) →
        exec (.quietTimerExpiry r) s = .next reported) ∧
      ∀ b : Nat, s.rings[r].profile.abandonOnQuiet = true → s.fillingCurrent r = some b →
        exec (.quietTimerExpiry r) s = .next (s.settleReleases (reported.damage r b .abandoned)).drainLink)

/-- HOLD_DEADLINE: the entry leaves the Hold Queue and is answered NOT_READY, HOLD_EXPIRED is raised and counted, and its
hold time is measured. -/
def Obligations.HoldDeadlineEndsTheEntry : Prop :=
  ∀ (s : State) (h : HoldPlace), s.nothingDue →
    s.holds.find? (fun x => s.holdDue x && x.read.initiator == h.read.initiator && x.read.tag == h.read.tag) = some h →
    exec (.holdDeadline h.read.initiator h.read.tag) s =
      .next (State.count h.ring .holdsExpired (State.raise
        { kind := .holdExpired, ring := ringField h.ring
          berth := berthField (h.berth - s.rings[h.ring].poolBase), seq := seqField (s.berth h.berth)
          initiator := initiatorField h.read.initiator, extra := h.read.tag.setWidth 32 }
        { s with
          holds := s.holds.erase h
          responses := s.responses ++ [⟨h.read.initiator, h.read.tag, .notReady, []⟩]
          counters := (s.raisePeak h.ring .peakHoldTime (s.timeBase.now - h.arrival)).counters }))

/-! ## The rules' arithmetic and the blocks' own rules -/

/-- Sequence comparison: with d the difference a - b modulo 65536, which is what the subtraction of sequences gives, a is
ahead of b exactly when d lies in 1..32767, d = 0 exactly when they are equal, and at d = 32768 neither is ahead; a cursor
passes what it is ahead of; the next sequence is one more modulo 65536 (R11). -/
def Obligations.SequenceComparison : Prop :=
  ∀ a b : Seq, (a - b).toNat = (a.toNat + 65536 - b.toNat) % 65536 ∧
    (seqAhead a b = true ↔
      1 ≤ (a.toNat + 65536 - b.toNat) % 65536 ∧ (a.toNat + 65536 - b.toNat) % 65536 ≤ 32767) ∧
    ((a.toNat + 65536 - b.toNat) % 65536 = 0 ↔ a = b) ∧
    ((a.toNat + 65536 - b.toNat) % 65536 = 32768 → seqAhead a b = false ∧ seqAhead b a = false ∧ a ≠ b) ∧
    (passes a b = true ↔ seqAhead a b = true) ∧ passes a a = false ∧ (a + 1).toNat = (a.toNat + 1) % 65536

/-- Group arithmetic: the signed difference, the position as its remainder on division by G in 0..G - 1, and the group of t
as the G sequences from (t - position) modulo 65536 onward (R66). -/
def Obligations.GroupArithmetic : Prop :=
  ∀ (t start u : Seq) (size : Nat), 1 ≤ size → size ≤ 16 →
    (signedDiff t start =
      if (t - start).toNat ≤ 32767 then ((t - start).toNat : Int) else ((t - start).toNat : Int) - 65536) ∧
    ((groupPosition size start t : Int) = signedDiff t start % (size : Int)) ∧ groupPosition size start t < size ∧
    (groupBase size start t + BitVec.ofNat 16 (groupPosition size start t) = t) ∧
    (inGroup size (groupBase size start t) u = true ↔
      ∃ n : Nat, n < size ∧ u = groupBase size start t + BitVec.ofNat 16 n)

/-- A record offered is discarded without a profile or with its kind's bit clear, joins the buffer below 8 records, and is else
counted as dropped, the count saturating (R164). A counter increment: saturated, it stays and sets its overflow bit; else
it rises by 1; no other counter changes (R172). The kinds' codes, the details of BERTH_DAMAGED and LOCK_LOST, and the
counters' indices are those of the tables of R170 and R171. -/
def Obligations.RecordOffersAndCounters : Prop :=
  (∀ (s : State) (c : Record),
    (s.control.device = none → s.offer c = s) ∧
    (∀ d : DeviceProfile, s.control.device = some d →
      s.offer c =
        if d.eventMask.getLsbD c.kind.code = false then s
        else if s.report.buffer.length < 8 then
          { s with report := { s.report with buffer := s.report.buffer ++ [c] } }
        else { s with
          report := { s.report with
            dropped := if s.report.dropped = 0xFFFFFFFF then 0xFFFFFFFF else s.report.dropped + 1 } })) ∧
  (∀ (k : CounterSet) (c d : Counter),
    (k.get c = 0xFFFFFFFF → (k.increment c).values = k.values ∧
      (k.increment c).overflow = k.overflow ||| (1#16 <<< c.index.val)) ∧
    (k.get c ≠ 0xFFFFFFFF → (k.increment c).get c = k.get c + 1 ∧ (k.increment c).overflow = k.overflow ∧
      (d ≠ c → (k.increment c).get d = k.get d))) ∧
  [ReportKind.loadDone, .commandDone, .commandRefused, .snapshotDone, .reportsDropped, .lockAcquired, .lockLost,
    .alignmentChanged, .sequenceBreak, .slip, .groupLocked, .groupLost, .groupFallback, .berthDamaged, .overrunRefused,
    .berthReclaimed, .claimConflict, .foreignWrite, .liveWriteRefused, .faultHeld, .holdExpired, .holdQueueFull,
    .verifySkipped, .producerQuiet, .producerCode, .cursorRefused, .cursorRegress, .writeDisabled, .protectRefused,
    .memoryFault, .tailInvalid].map ReportKind.code = List.range' 1 31 ∧
  [DamageCause.leadError, .lengthError, .fillOrder, .tailError, .checkError, .abandoned, .verifyFailed,
    .memoryFault].map DamageCause.code = [1, 2, 3, 4, 5, 6, 7, 8] ∧
  [LossCause.consecutiveErrors, .excessCheck, .command].map LossCause.code = [1, 2, 3] ∧
  [Counter.berthsSealed, .berthsDamaged, .checkErrors, .leadErrors, .sequenceBreaks, .slips, .lockLosses, .groupErrors,
    .writesRefused, .overruns, .reclaims, .holdsStarted, .holdsExpired, .verifyRetries, .peakOccupancy,
    .peakHoldTime].map (·.index.val) = List.range 16

/-- INT_N is asserted exactly while interrupt enable is set in the profile in force and head differs from tail, or the
load attention flag is set (R168). -/
def Obligations.InterruptLevel : Prop :=
  ∀ s : State, s.intAsserted = true ↔
    ((∃ d, s.control.device = some d ∧ d.interruptEnable = true ∧ s.report.head ≠ s.report.tail) ∨
      s.control.attention = true)
end

