-- ==== Sys2Proof/Laws/State.lean ====
section
/-! SUPPORT. One lemma per field per named update of State: what the update leaves and what it writes. -/

namespace Sys2Proof.Machine

open Sys2Proof

/-! ## modPins -/

@[simp] theorem pins_modPins (s : State) (f : Pins → Pins) : (s.modPins f).pins = f s.pins := rfl
@[simp] theorem timeBase_modPins (s : State) (f : Pins → Pins) : (s.modPins f).timeBase = s.timeBase := rfl
@[simp] theorem link_modPins (s : State) (f : Pins → Pins) : (s.modPins f).link = s.link := rfl
@[simp] theorem responses_modPins (s : State) (f : Pins → Pins) : (s.modPins f).responses = s.responses := rfl
@[simp] theorem rings_modPins (s : State) (f : Pins → Pins) : (s.modPins f).rings = s.rings := rfl
@[simp] theorem pool_modPins (s : State) (f : Pins → Pins) : (s.modPins f).pool = s.pool := rfl
@[simp] theorem holds_modPins (s : State) (f : Pins → Pins) : (s.modPins f).holds = s.holds := rfl
@[simp] theorem verify_modPins (s : State) (f : Pins → Pins) : (s.modPins f).verify = s.verify := rfl
@[simp] theorem port_modPins (s : State) (f : Pins → Pins) : (s.modPins f).port = s.port := rfl
@[simp] theorem episode_modPins (s : State) (f : Pins → Pins) : (s.modPins f).episode = s.episode := rfl
@[simp] theorem control_modPins (s : State) (f : Pins → Pins) : (s.modPins f).control = s.control := rfl
@[simp] theorem report_modPins (s : State) (f : Pins → Pins) : (s.modPins f).report = s.report := rfl
@[simp] theorem counters_modPins (s : State) (f : Pins → Pins) : (s.modPins f).counters = s.counters := rfl
@[simp] theorem pending_modPins (s : State) (f : Pins → Pins) : (s.modPins f).pending = s.pending := rfl

/-! ## modTimeBase -/

@[simp] theorem pins_modTimeBase (s : State) (f : TimeBase → TimeBase) : (s.modTimeBase f).pins = s.pins := rfl
@[simp] theorem timeBase_modTimeBase (s : State) (f : TimeBase → TimeBase) : (s.modTimeBase f).timeBase = f s.timeBase := rfl
@[simp] theorem link_modTimeBase (s : State) (f : TimeBase → TimeBase) : (s.modTimeBase f).link = s.link := rfl
@[simp] theorem responses_modTimeBase (s : State) (f : TimeBase → TimeBase) : (s.modTimeBase f).responses = s.responses := rfl
@[simp] theorem rings_modTimeBase (s : State) (f : TimeBase → TimeBase) : (s.modTimeBase f).rings = s.rings := rfl
@[simp] theorem pool_modTimeBase (s : State) (f : TimeBase → TimeBase) : (s.modTimeBase f).pool = s.pool := rfl
@[simp] theorem holds_modTimeBase (s : State) (f : TimeBase → TimeBase) : (s.modTimeBase f).holds = s.holds := rfl
@[simp] theorem verify_modTimeBase (s : State) (f : TimeBase → TimeBase) : (s.modTimeBase f).verify = s.verify := rfl
@[simp] theorem port_modTimeBase (s : State) (f : TimeBase → TimeBase) : (s.modTimeBase f).port = s.port := rfl
@[simp] theorem episode_modTimeBase (s : State) (f : TimeBase → TimeBase) : (s.modTimeBase f).episode = s.episode := rfl
@[simp] theorem control_modTimeBase (s : State) (f : TimeBase → TimeBase) : (s.modTimeBase f).control = s.control := rfl
@[simp] theorem report_modTimeBase (s : State) (f : TimeBase → TimeBase) : (s.modTimeBase f).report = s.report := rfl
@[simp] theorem counters_modTimeBase (s : State) (f : TimeBase → TimeBase) : (s.modTimeBase f).counters = s.counters := rfl
@[simp] theorem pending_modTimeBase (s : State) (f : TimeBase → TimeBase) : (s.modTimeBase f).pending = s.pending := rfl

/-! ## modLink -/

@[simp] theorem pins_modLink (s : State) (f : List Transaction → List Transaction) : (s.modLink f).pins = s.pins := rfl
@[simp] theorem timeBase_modLink (s : State) (f : List Transaction → List Transaction) : (s.modLink f).timeBase = s.timeBase := rfl
@[simp] theorem link_modLink (s : State) (f : List Transaction → List Transaction) : (s.modLink f).link = f s.link := rfl
@[simp] theorem responses_modLink (s : State) (f : List Transaction → List Transaction) : (s.modLink f).responses = s.responses := rfl
@[simp] theorem rings_modLink (s : State) (f : List Transaction → List Transaction) : (s.modLink f).rings = s.rings := rfl
@[simp] theorem pool_modLink (s : State) (f : List Transaction → List Transaction) : (s.modLink f).pool = s.pool := rfl
@[simp] theorem holds_modLink (s : State) (f : List Transaction → List Transaction) : (s.modLink f).holds = s.holds := rfl
@[simp] theorem verify_modLink (s : State) (f : List Transaction → List Transaction) : (s.modLink f).verify = s.verify := rfl
@[simp] theorem port_modLink (s : State) (f : List Transaction → List Transaction) : (s.modLink f).port = s.port := rfl
@[simp] theorem episode_modLink (s : State) (f : List Transaction → List Transaction) : (s.modLink f).episode = s.episode := rfl
@[simp] theorem control_modLink (s : State) (f : List Transaction → List Transaction) : (s.modLink f).control = s.control := rfl
@[simp] theorem report_modLink (s : State) (f : List Transaction → List Transaction) : (s.modLink f).report = s.report := rfl
@[simp] theorem counters_modLink (s : State) (f : List Transaction → List Transaction) : (s.modLink f).counters = s.counters := rfl
@[simp] theorem pending_modLink (s : State) (f : List Transaction → List Transaction) : (s.modLink f).pending = s.pending := rfl

/-! ## respond -/

@[simp] theorem pins_respond (s : State) (i : Initiator) (t : Tag) (c : ResponseCode) (d : List Byte) : (s.respond i t c d).pins = s.pins := rfl
@[simp] theorem timeBase_respond (s : State) (i : Initiator) (t : Tag) (c : ResponseCode) (d : List Byte) : (s.respond i t c d).timeBase = s.timeBase := rfl
@[simp] theorem link_respond (s : State) (i : Initiator) (t : Tag) (c : ResponseCode) (d : List Byte) : (s.respond i t c d).link = s.link := rfl
@[simp] theorem responses_respond (s : State) (i : Initiator) (t : Tag) (c : ResponseCode) (d : List Byte) : (s.respond i t c d).responses = s.responses ++ [⟨i, t, c, d⟩] := rfl
@[simp] theorem rings_respond (s : State) (i : Initiator) (t : Tag) (c : ResponseCode) (d : List Byte) : (s.respond i t c d).rings = s.rings := rfl
@[simp] theorem pool_respond (s : State) (i : Initiator) (t : Tag) (c : ResponseCode) (d : List Byte) : (s.respond i t c d).pool = s.pool := rfl
@[simp] theorem holds_respond (s : State) (i : Initiator) (t : Tag) (c : ResponseCode) (d : List Byte) : (s.respond i t c d).holds = s.holds := rfl
@[simp] theorem verify_respond (s : State) (i : Initiator) (t : Tag) (c : ResponseCode) (d : List Byte) : (s.respond i t c d).verify = s.verify := rfl
@[simp] theorem port_respond (s : State) (i : Initiator) (t : Tag) (c : ResponseCode) (d : List Byte) : (s.respond i t c d).port = s.port := rfl
@[simp] theorem episode_respond (s : State) (i : Initiator) (t : Tag) (c : ResponseCode) (d : List Byte) : (s.respond i t c d).episode = s.episode := rfl
@[simp] theorem control_respond (s : State) (i : Initiator) (t : Tag) (c : ResponseCode) (d : List Byte) : (s.respond i t c d).control = s.control := rfl
@[simp] theorem report_respond (s : State) (i : Initiator) (t : Tag) (c : ResponseCode) (d : List Byte) : (s.respond i t c d).report = s.report := rfl
@[simp] theorem counters_respond (s : State) (i : Initiator) (t : Tag) (c : ResponseCode) (d : List Byte) : (s.respond i t c d).counters = s.counters := rfl
@[simp] theorem pending_respond (s : State) (i : Initiator) (t : Tag) (c : ResponseCode) (d : List Byte) : (s.respond i t c d).pending = s.pending := rfl

/-! ## modRing -/

@[simp] theorem pins_modRing (s : State) (r : RingId) (f : RingRecord → RingRecord) : (s.modRing r f).pins = s.pins := rfl
@[simp] theorem timeBase_modRing (s : State) (r : RingId) (f : RingRecord → RingRecord) : (s.modRing r f).timeBase = s.timeBase := rfl
@[simp] theorem link_modRing (s : State) (r : RingId) (f : RingRecord → RingRecord) : (s.modRing r f).link = s.link := rfl
@[simp] theorem responses_modRing (s : State) (r : RingId) (f : RingRecord → RingRecord) : (s.modRing r f).responses = s.responses := rfl
@[simp] theorem rings_modRing (s : State) (r : RingId) (f : RingRecord → RingRecord) : (s.modRing r f).rings = s.rings.set r.val (f s.rings[r]) := rfl
@[simp] theorem pool_modRing (s : State) (r : RingId) (f : RingRecord → RingRecord) : (s.modRing r f).pool = s.pool := rfl
@[simp] theorem holds_modRing (s : State) (r : RingId) (f : RingRecord → RingRecord) : (s.modRing r f).holds = s.holds := rfl
@[simp] theorem verify_modRing (s : State) (r : RingId) (f : RingRecord → RingRecord) : (s.modRing r f).verify = s.verify := rfl
@[simp] theorem port_modRing (s : State) (r : RingId) (f : RingRecord → RingRecord) : (s.modRing r f).port = s.port := rfl
@[simp] theorem episode_modRing (s : State) (r : RingId) (f : RingRecord → RingRecord) : (s.modRing r f).episode = s.episode := rfl
@[simp] theorem control_modRing (s : State) (r : RingId) (f : RingRecord → RingRecord) : (s.modRing r f).control = s.control := rfl
@[simp] theorem report_modRing (s : State) (r : RingId) (f : RingRecord → RingRecord) : (s.modRing r f).report = s.report := rfl
@[simp] theorem counters_modRing (s : State) (r : RingId) (f : RingRecord → RingRecord) : (s.modRing r f).counters = s.counters := rfl
@[simp] theorem pending_modRing (s : State) (r : RingId) (f : RingRecord → RingRecord) : (s.modRing r f).pending = s.pending := rfl

/-! ## modBerth -/

@[simp] theorem pins_modBerth (s : State) (p : Nat) (f : Berth → Berth) : (s.modBerth p f).pins = s.pins := by
  unfold State.modBerth; split <;> rfl
@[simp] theorem timeBase_modBerth (s : State) (p : Nat) (f : Berth → Berth) : (s.modBerth p f).timeBase = s.timeBase := by
  unfold State.modBerth; split <;> rfl
@[simp] theorem link_modBerth (s : State) (p : Nat) (f : Berth → Berth) : (s.modBerth p f).link = s.link := by
  unfold State.modBerth; split <;> rfl
@[simp] theorem responses_modBerth (s : State) (p : Nat) (f : Berth → Berth) : (s.modBerth p f).responses = s.responses := by
  unfold State.modBerth; split <;> rfl
@[simp] theorem rings_modBerth (s : State) (p : Nat) (f : Berth → Berth) : (s.modBerth p f).rings = s.rings := by
  unfold State.modBerth; split <;> rfl
@[simp] theorem holds_modBerth (s : State) (p : Nat) (f : Berth → Berth) : (s.modBerth p f).holds = s.holds := by
  unfold State.modBerth; split <;> rfl
@[simp] theorem verify_modBerth (s : State) (p : Nat) (f : Berth → Berth) : (s.modBerth p f).verify = s.verify := by
  unfold State.modBerth; split <;> rfl
@[simp] theorem port_modBerth (s : State) (p : Nat) (f : Berth → Berth) : (s.modBerth p f).port = s.port := by
  unfold State.modBerth; split <;> rfl
@[simp] theorem episode_modBerth (s : State) (p : Nat) (f : Berth → Berth) : (s.modBerth p f).episode = s.episode := by
  unfold State.modBerth; split <;> rfl
@[simp] theorem control_modBerth (s : State) (p : Nat) (f : Berth → Berth) : (s.modBerth p f).control = s.control := by
  unfold State.modBerth; split <;> rfl
@[simp] theorem report_modBerth (s : State) (p : Nat) (f : Berth → Berth) : (s.modBerth p f).report = s.report := by
  unfold State.modBerth; split <;> rfl
@[simp] theorem counters_modBerth (s : State) (p : Nat) (f : Berth → Berth) : (s.modBerth p f).counters = s.counters := by
  unfold State.modBerth; split <;> rfl
@[simp] theorem pending_modBerth (s : State) (p : Nat) (f : Berth → Berth) : (s.modBerth p f).pending = s.pending := by
  unfold State.modBerth; split <;> rfl

/-! ## modHolds -/

@[simp] theorem pins_modHolds (s : State) (f : List HoldPlace → List HoldPlace) : (s.modHolds f).pins = s.pins := rfl
@[simp] theorem timeBase_modHolds (s : State) (f : List HoldPlace → List HoldPlace) : (s.modHolds f).timeBase = s.timeBase := rfl
@[simp] theorem link_modHolds (s : State) (f : List HoldPlace → List HoldPlace) : (s.modHolds f).link = s.link := rfl
@[simp] theorem responses_modHolds (s : State) (f : List HoldPlace → List HoldPlace) : (s.modHolds f).responses = s.responses := rfl
@[simp] theorem rings_modHolds (s : State) (f : List HoldPlace → List HoldPlace) : (s.modHolds f).rings = s.rings := rfl
@[simp] theorem pool_modHolds (s : State) (f : List HoldPlace → List HoldPlace) : (s.modHolds f).pool = s.pool := rfl
@[simp] theorem holds_modHolds (s : State) (f : List HoldPlace → List HoldPlace) : (s.modHolds f).holds = f s.holds := rfl
@[simp] theorem verify_modHolds (s : State) (f : List HoldPlace → List HoldPlace) : (s.modHolds f).verify = s.verify := rfl
@[simp] theorem port_modHolds (s : State) (f : List HoldPlace → List HoldPlace) : (s.modHolds f).port = s.port := rfl
@[simp] theorem episode_modHolds (s : State) (f : List HoldPlace → List HoldPlace) : (s.modHolds f).episode = s.episode := rfl
@[simp] theorem control_modHolds (s : State) (f : List HoldPlace → List HoldPlace) : (s.modHolds f).control = s.control := rfl
@[simp] theorem report_modHolds (s : State) (f : List HoldPlace → List HoldPlace) : (s.modHolds f).report = s.report := rfl
@[simp] theorem counters_modHolds (s : State) (f : List HoldPlace → List HoldPlace) : (s.modHolds f).counters = s.counters := rfl
@[simp] theorem pending_modHolds (s : State) (f : List HoldPlace → List HoldPlace) : (s.modHolds f).pending = s.pending := rfl

/-! ## modVerify -/

@[simp] theorem pins_modVerify (s : State) (f : VerifyEngine → VerifyEngine) : (s.modVerify f).pins = s.pins := rfl
@[simp] theorem timeBase_modVerify (s : State) (f : VerifyEngine → VerifyEngine) : (s.modVerify f).timeBase = s.timeBase := rfl
@[simp] theorem link_modVerify (s : State) (f : VerifyEngine → VerifyEngine) : (s.modVerify f).link = s.link := rfl
@[simp] theorem responses_modVerify (s : State) (f : VerifyEngine → VerifyEngine) : (s.modVerify f).responses = s.responses := rfl
@[simp] theorem rings_modVerify (s : State) (f : VerifyEngine → VerifyEngine) : (s.modVerify f).rings = s.rings := rfl
@[simp] theorem pool_modVerify (s : State) (f : VerifyEngine → VerifyEngine) : (s.modVerify f).pool = s.pool := rfl
@[simp] theorem holds_modVerify (s : State) (f : VerifyEngine → VerifyEngine) : (s.modVerify f).holds = s.holds := rfl
@[simp] theorem verify_modVerify (s : State) (f : VerifyEngine → VerifyEngine) : (s.modVerify f).verify = f s.verify := rfl
@[simp] theorem port_modVerify (s : State) (f : VerifyEngine → VerifyEngine) : (s.modVerify f).port = s.port := rfl
@[simp] theorem episode_modVerify (s : State) (f : VerifyEngine → VerifyEngine) : (s.modVerify f).episode = s.episode := rfl
@[simp] theorem control_modVerify (s : State) (f : VerifyEngine → VerifyEngine) : (s.modVerify f).control = s.control := rfl
@[simp] theorem report_modVerify (s : State) (f : VerifyEngine → VerifyEngine) : (s.modVerify f).report = s.report := rfl
@[simp] theorem counters_modVerify (s : State) (f : VerifyEngine → VerifyEngine) : (s.modVerify f).counters = s.counters := rfl
@[simp] theorem pending_modVerify (s : State) (f : VerifyEngine → VerifyEngine) : (s.modVerify f).pending = s.pending := rfl

/-! ## modPort -/

@[simp] theorem pins_modPort (s : State) (f : MemoryPort → MemoryPort) : (s.modPort f).pins = s.pins := rfl
@[simp] theorem timeBase_modPort (s : State) (f : MemoryPort → MemoryPort) : (s.modPort f).timeBase = s.timeBase := rfl
@[simp] theorem link_modPort (s : State) (f : MemoryPort → MemoryPort) : (s.modPort f).link = s.link := rfl
@[simp] theorem responses_modPort (s : State) (f : MemoryPort → MemoryPort) : (s.modPort f).responses = s.responses := rfl
@[simp] theorem rings_modPort (s : State) (f : MemoryPort → MemoryPort) : (s.modPort f).rings = s.rings := rfl
@[simp] theorem pool_modPort (s : State) (f : MemoryPort → MemoryPort) : (s.modPort f).pool = s.pool := rfl
@[simp] theorem holds_modPort (s : State) (f : MemoryPort → MemoryPort) : (s.modPort f).holds = s.holds := rfl
@[simp] theorem verify_modPort (s : State) (f : MemoryPort → MemoryPort) : (s.modPort f).verify = s.verify := rfl
@[simp] theorem port_modPort (s : State) (f : MemoryPort → MemoryPort) : (s.modPort f).port = f s.port := rfl
@[simp] theorem episode_modPort (s : State) (f : MemoryPort → MemoryPort) : (s.modPort f).episode = s.episode := rfl
@[simp] theorem control_modPort (s : State) (f : MemoryPort → MemoryPort) : (s.modPort f).control = s.control := rfl
@[simp] theorem report_modPort (s : State) (f : MemoryPort → MemoryPort) : (s.modPort f).report = s.report := rfl
@[simp] theorem counters_modPort (s : State) (f : MemoryPort → MemoryPort) : (s.modPort f).counters = s.counters := rfl
@[simp] theorem pending_modPort (s : State) (f : MemoryPort → MemoryPort) : (s.modPort f).pending = s.pending := rfl

/-! ## setEpisode -/

@[simp] theorem pins_setEpisode (s : State) (b : Bool) : (s.setEpisode b).pins = s.pins := rfl
@[simp] theorem timeBase_setEpisode (s : State) (b : Bool) : (s.setEpisode b).timeBase = s.timeBase := rfl
@[simp] theorem link_setEpisode (s : State) (b : Bool) : (s.setEpisode b).link = s.link := rfl
@[simp] theorem responses_setEpisode (s : State) (b : Bool) : (s.setEpisode b).responses = s.responses := rfl
@[simp] theorem rings_setEpisode (s : State) (b : Bool) : (s.setEpisode b).rings = s.rings := rfl
@[simp] theorem pool_setEpisode (s : State) (b : Bool) : (s.setEpisode b).pool = s.pool := rfl
@[simp] theorem holds_setEpisode (s : State) (b : Bool) : (s.setEpisode b).holds = s.holds := rfl
@[simp] theorem verify_setEpisode (s : State) (b : Bool) : (s.setEpisode b).verify = s.verify := rfl
@[simp] theorem port_setEpisode (s : State) (b : Bool) : (s.setEpisode b).port = s.port := rfl
@[simp] theorem episode_setEpisode (s : State) (b : Bool) : (s.setEpisode b).episode = b := rfl
@[simp] theorem control_setEpisode (s : State) (b : Bool) : (s.setEpisode b).control = s.control := rfl
@[simp] theorem report_setEpisode (s : State) (b : Bool) : (s.setEpisode b).report = s.report := rfl
@[simp] theorem counters_setEpisode (s : State) (b : Bool) : (s.setEpisode b).counters = s.counters := rfl
@[simp] theorem pending_setEpisode (s : State) (b : Bool) : (s.setEpisode b).pending = s.pending := rfl

/-! ## modControl -/

@[simp] theorem pins_modControl (s : State) (f : ControlUnit → ControlUnit) : (s.modControl f).pins = s.pins := rfl
@[simp] theorem timeBase_modControl (s : State) (f : ControlUnit → ControlUnit) : (s.modControl f).timeBase = s.timeBase := rfl
@[simp] theorem link_modControl (s : State) (f : ControlUnit → ControlUnit) : (s.modControl f).link = s.link := rfl
@[simp] theorem responses_modControl (s : State) (f : ControlUnit → ControlUnit) : (s.modControl f).responses = s.responses := rfl
@[simp] theorem rings_modControl (s : State) (f : ControlUnit → ControlUnit) : (s.modControl f).rings = s.rings := rfl
@[simp] theorem pool_modControl (s : State) (f : ControlUnit → ControlUnit) : (s.modControl f).pool = s.pool := rfl
@[simp] theorem holds_modControl (s : State) (f : ControlUnit → ControlUnit) : (s.modControl f).holds = s.holds := rfl
@[simp] theorem verify_modControl (s : State) (f : ControlUnit → ControlUnit) : (s.modControl f).verify = s.verify := rfl
@[simp] theorem port_modControl (s : State) (f : ControlUnit → ControlUnit) : (s.modControl f).port = s.port := rfl
@[simp] theorem episode_modControl (s : State) (f : ControlUnit → ControlUnit) : (s.modControl f).episode = s.episode := rfl
@[simp] theorem control_modControl (s : State) (f : ControlUnit → ControlUnit) : (s.modControl f).control = f s.control := rfl
@[simp] theorem report_modControl (s : State) (f : ControlUnit → ControlUnit) : (s.modControl f).report = s.report := rfl
@[simp] theorem counters_modControl (s : State) (f : ControlUnit → ControlUnit) : (s.modControl f).counters = s.counters := rfl
@[simp] theorem pending_modControl (s : State) (f : ControlUnit → ControlUnit) : (s.modControl f).pending = s.pending := rfl

/-! ## modReport -/

@[simp] theorem pins_modReport (s : State) (f : ReportEngine → ReportEngine) : (s.modReport f).pins = s.pins := rfl
@[simp] theorem timeBase_modReport (s : State) (f : ReportEngine → ReportEngine) : (s.modReport f).timeBase = s.timeBase := rfl
@[simp] theorem link_modReport (s : State) (f : ReportEngine → ReportEngine) : (s.modReport f).link = s.link := rfl
@[simp] theorem responses_modReport (s : State) (f : ReportEngine → ReportEngine) : (s.modReport f).responses = s.responses := rfl
@[simp] theorem rings_modReport (s : State) (f : ReportEngine → ReportEngine) : (s.modReport f).rings = s.rings := rfl
@[simp] theorem pool_modReport (s : State) (f : ReportEngine → ReportEngine) : (s.modReport f).pool = s.pool := rfl
@[simp] theorem holds_modReport (s : State) (f : ReportEngine → ReportEngine) : (s.modReport f).holds = s.holds := rfl
@[simp] theorem verify_modReport (s : State) (f : ReportEngine → ReportEngine) : (s.modReport f).verify = s.verify := rfl
@[simp] theorem port_modReport (s : State) (f : ReportEngine → ReportEngine) : (s.modReport f).port = s.port := rfl
@[simp] theorem episode_modReport (s : State) (f : ReportEngine → ReportEngine) : (s.modReport f).episode = s.episode := rfl
@[simp] theorem control_modReport (s : State) (f : ReportEngine → ReportEngine) : (s.modReport f).control = s.control := rfl
@[simp] theorem report_modReport (s : State) (f : ReportEngine → ReportEngine) : (s.modReport f).report = f s.report := rfl
@[simp] theorem counters_modReport (s : State) (f : ReportEngine → ReportEngine) : (s.modReport f).counters = s.counters := rfl
@[simp] theorem pending_modReport (s : State) (f : ReportEngine → ReportEngine) : (s.modReport f).pending = s.pending := rfl

/-! ## modCounters -/

@[simp] theorem pins_modCounters (s : State) (r : RingId) (f : CounterSet → CounterSet) : (s.modCounters r f).pins = s.pins := rfl
@[simp] theorem timeBase_modCounters (s : State) (r : RingId) (f : CounterSet → CounterSet) : (s.modCounters r f).timeBase = s.timeBase := rfl
@[simp] theorem link_modCounters (s : State) (r : RingId) (f : CounterSet → CounterSet) : (s.modCounters r f).link = s.link := rfl
@[simp] theorem responses_modCounters (s : State) (r : RingId) (f : CounterSet → CounterSet) : (s.modCounters r f).responses = s.responses := rfl
@[simp] theorem rings_modCounters (s : State) (r : RingId) (f : CounterSet → CounterSet) : (s.modCounters r f).rings = s.rings := rfl
@[simp] theorem pool_modCounters (s : State) (r : RingId) (f : CounterSet → CounterSet) : (s.modCounters r f).pool = s.pool := rfl
@[simp] theorem holds_modCounters (s : State) (r : RingId) (f : CounterSet → CounterSet) : (s.modCounters r f).holds = s.holds := rfl
@[simp] theorem verify_modCounters (s : State) (r : RingId) (f : CounterSet → CounterSet) : (s.modCounters r f).verify = s.verify := rfl
@[simp] theorem port_modCounters (s : State) (r : RingId) (f : CounterSet → CounterSet) : (s.modCounters r f).port = s.port := rfl
@[simp] theorem episode_modCounters (s : State) (r : RingId) (f : CounterSet → CounterSet) : (s.modCounters r f).episode = s.episode := rfl
@[simp] theorem control_modCounters (s : State) (r : RingId) (f : CounterSet → CounterSet) : (s.modCounters r f).control = s.control := rfl
@[simp] theorem report_modCounters (s : State) (r : RingId) (f : CounterSet → CounterSet) : (s.modCounters r f).report = s.report := rfl
@[simp] theorem counters_modCounters (s : State) (r : RingId) (f : CounterSet → CounterSet) : (s.modCounters r f).counters = s.counters.set r.val (f s.counters[r]) := rfl
@[simp] theorem pending_modCounters (s : State) (r : RingId) (f : CounterSet → CounterSet) : (s.modCounters r f).pending = s.pending := rfl

/-! ## withPending -/

@[simp] theorem pins_withPending (s : State) (q : List Instr) : (s.withPending q).pins = s.pins := rfl
@[simp] theorem timeBase_withPending (s : State) (q : List Instr) : (s.withPending q).timeBase = s.timeBase := rfl
@[simp] theorem link_withPending (s : State) (q : List Instr) : (s.withPending q).link = s.link := rfl
@[simp] theorem responses_withPending (s : State) (q : List Instr) : (s.withPending q).responses = s.responses := rfl
@[simp] theorem rings_withPending (s : State) (q : List Instr) : (s.withPending q).rings = s.rings := rfl
@[simp] theorem pool_withPending (s : State) (q : List Instr) : (s.withPending q).pool = s.pool := rfl
@[simp] theorem holds_withPending (s : State) (q : List Instr) : (s.withPending q).holds = s.holds := rfl
@[simp] theorem verify_withPending (s : State) (q : List Instr) : (s.withPending q).verify = s.verify := rfl
@[simp] theorem port_withPending (s : State) (q : List Instr) : (s.withPending q).port = s.port := rfl
@[simp] theorem episode_withPending (s : State) (q : List Instr) : (s.withPending q).episode = s.episode := rfl
@[simp] theorem control_withPending (s : State) (q : List Instr) : (s.withPending q).control = s.control := rfl
@[simp] theorem report_withPending (s : State) (q : List Instr) : (s.withPending q).report = s.report := rfl
@[simp] theorem counters_withPending (s : State) (q : List Instr) : (s.withPending q).counters = s.counters := rfl
@[simp] theorem pending_withPending (s : State) (q : List Instr) : (s.withPending q).pending = q := rfl

/-! ## Reading one ring, one berth, one counter set back -/

/-- The changed ring holds its new value. -/
@[simp] theorem ring_modRing_same (s : State) (r : RingId) (f : RingRecord → RingRecord) :
    (s.modRing r f).rings[r] = f s.rings[r] := by
  simp [State.modRing]

/-- The other rings keep theirs. -/
theorem ring_modRing_other (s : State) (r q : RingId) (f : RingRecord → RingRecord) (h : q ≠ r) :
    (s.modRing r f).rings[q] = s.rings[q] := by
  have h' : r.val ≠ q.val := fun e => h (Fin.ext e.symm)
  simp [State.modRing, Vector.getElem_set_ne, h']

/-- A berth of the pool holds its new value. -/
theorem berth_modBerth_same (s : State) (p : Nat) (f : Berth → Berth) (h : p < 2048) :
    (s.modBerth p f).berth p = f (s.berth p) := by
  simp [State.modBerth, State.berth, h]

/-- The other berths keep theirs. -/
theorem berth_modBerth_other (s : State) (p q : Nat) (f : Berth → Berth) (h : q ≠ p) :
    (s.modBerth p f).berth q = s.berth q := by
  unfold State.modBerth State.berth
  split
  · split
    · simp [Vector.getElem_set_ne, Ne.symm h]
    · rfl
  · rfl

/-- A berth is read from the pool alone. -/
theorem berth_congr (s t : State) (p : Nat) (h : t.pool = s.pool) : t.berth p = s.berth p := by
  simp [State.berth, h]

/-- The changed ring's counters hold their new value. -/
@[simp] theorem counters_modCounters_same (s : State) (r : RingId) (f : CounterSet → CounterSet) :
    (s.modCounters r f).counters[r] = f s.counters[r] := by
  simp [State.modCounters]

/-- The other rings' counters keep theirs. -/
theorem counters_modCounters_other (s : State) (r q : RingId) (f : CounterSet → CounterSet) (h : q ≠ r) :
    (s.modCounters r f).counters[q] = s.counters[q] := by
  have h' : r.val ≠ q.val := fun e => h (Fin.ext e.symm)
  simp [State.modCounters, Vector.getElem_set_ne, h']

end Sys2Proof.Machine
end

