-- ==== Sys2Proof/Laws/Ops.lean ====
section
/-! SUPPORT. The operations that change one block: the fields each of them leaves. -/

namespace Sys2Proof.Machine

open Sys2Proof Sys2Proof.Config

/-! ## modTracking -/

@[simp] theorem pins_modTracking (s : State) (r : RingId) (f : Tracking → Tracking) : (s.modTracking r f).pins = s.pins := rfl
@[simp] theorem timeBase_modTracking (s : State) (r : RingId) (f : Tracking → Tracking) : (s.modTracking r f).timeBase = s.timeBase := rfl
@[simp] theorem link_modTracking (s : State) (r : RingId) (f : Tracking → Tracking) : (s.modTracking r f).link = s.link := rfl
@[simp] theorem responses_modTracking (s : State) (r : RingId) (f : Tracking → Tracking) : (s.modTracking r f).responses = s.responses := rfl
@[simp] theorem pool_modTracking (s : State) (r : RingId) (f : Tracking → Tracking) : (s.modTracking r f).pool = s.pool := rfl
@[simp] theorem holds_modTracking (s : State) (r : RingId) (f : Tracking → Tracking) : (s.modTracking r f).holds = s.holds := rfl
@[simp] theorem verify_modTracking (s : State) (r : RingId) (f : Tracking → Tracking) : (s.modTracking r f).verify = s.verify := rfl
@[simp] theorem port_modTracking (s : State) (r : RingId) (f : Tracking → Tracking) : (s.modTracking r f).port = s.port := rfl
@[simp] theorem episode_modTracking (s : State) (r : RingId) (f : Tracking → Tracking) : (s.modTracking r f).episode = s.episode := rfl
@[simp] theorem control_modTracking (s : State) (r : RingId) (f : Tracking → Tracking) : (s.modTracking r f).control = s.control := rfl
@[simp] theorem report_modTracking (s : State) (r : RingId) (f : Tracking → Tracking) : (s.modTracking r f).report = s.report := rfl
@[simp] theorem counters_modTracking (s : State) (r : RingId) (f : Tracking → Tracking) : (s.modTracking r f).counters = s.counters := rfl
@[simp] theorem pending_modTracking (s : State) (r : RingId) (f : Tracking → Tracking) : (s.modTracking r f).pending = s.pending := rfl

/-! ## modSlot -/

@[simp] theorem pins_modSlot (s : State) (r : RingId) (k : SlotId) (f : Slot → Slot) : (s.modSlot r k f).pins = s.pins := rfl
@[simp] theorem timeBase_modSlot (s : State) (r : RingId) (k : SlotId) (f : Slot → Slot) : (s.modSlot r k f).timeBase = s.timeBase := rfl
@[simp] theorem link_modSlot (s : State) (r : RingId) (k : SlotId) (f : Slot → Slot) : (s.modSlot r k f).link = s.link := rfl
@[simp] theorem responses_modSlot (s : State) (r : RingId) (k : SlotId) (f : Slot → Slot) : (s.modSlot r k f).responses = s.responses := rfl
@[simp] theorem pool_modSlot (s : State) (r : RingId) (k : SlotId) (f : Slot → Slot) : (s.modSlot r k f).pool = s.pool := rfl
@[simp] theorem holds_modSlot (s : State) (r : RingId) (k : SlotId) (f : Slot → Slot) : (s.modSlot r k f).holds = s.holds := rfl
@[simp] theorem verify_modSlot (s : State) (r : RingId) (k : SlotId) (f : Slot → Slot) : (s.modSlot r k f).verify = s.verify := rfl
@[simp] theorem port_modSlot (s : State) (r : RingId) (k : SlotId) (f : Slot → Slot) : (s.modSlot r k f).port = s.port := rfl
@[simp] theorem episode_modSlot (s : State) (r : RingId) (k : SlotId) (f : Slot → Slot) : (s.modSlot r k f).episode = s.episode := rfl
@[simp] theorem control_modSlot (s : State) (r : RingId) (k : SlotId) (f : Slot → Slot) : (s.modSlot r k f).control = s.control := rfl
@[simp] theorem report_modSlot (s : State) (r : RingId) (k : SlotId) (f : Slot → Slot) : (s.modSlot r k f).report = s.report := rfl
@[simp] theorem counters_modSlot (s : State) (r : RingId) (k : SlotId) (f : Slot → Slot) : (s.modSlot r k f).counters = s.counters := rfl
@[simp] theorem pending_modSlot (s : State) (r : RingId) (k : SlotId) (f : Slot → Slot) : (s.modSlot r k f).pending = s.pending := rfl

/-! ## enableRing -/

@[simp] theorem pins_enableRing (s : State) (r : RingId) : (s.enableRing r).pins = s.pins := rfl
@[simp] theorem timeBase_enableRing (s : State) (r : RingId) : (s.enableRing r).timeBase = s.timeBase := rfl
@[simp] theorem link_enableRing (s : State) (r : RingId) : (s.enableRing r).link = s.link := rfl
@[simp] theorem responses_enableRing (s : State) (r : RingId) : (s.enableRing r).responses = s.responses := rfl
@[simp] theorem pool_enableRing (s : State) (r : RingId) : (s.enableRing r).pool = s.pool := rfl
@[simp] theorem holds_enableRing (s : State) (r : RingId) : (s.enableRing r).holds = s.holds := rfl
@[simp] theorem verify_enableRing (s : State) (r : RingId) : (s.enableRing r).verify = s.verify := rfl
@[simp] theorem port_enableRing (s : State) (r : RingId) : (s.enableRing r).port = s.port := rfl
@[simp] theorem episode_enableRing (s : State) (r : RingId) : (s.enableRing r).episode = s.episode := rfl
@[simp] theorem control_enableRing (s : State) (r : RingId) : (s.enableRing r).control = s.control := rfl
@[simp] theorem report_enableRing (s : State) (r : RingId) : (s.enableRing r).report = s.report := rfl
@[simp] theorem counters_enableRing (s : State) (r : RingId) : (s.enableRing r).counters = s.counters := rfl
@[simp] theorem pending_enableRing (s : State) (r : RingId) : (s.enableRing r).pending = s.pending := rfl

/-! ## occupancyDown -/

@[simp] theorem pins_occupancyDown (s : State) (r : RingId) : (s.occupancyDown r).pins = s.pins := rfl
@[simp] theorem timeBase_occupancyDown (s : State) (r : RingId) : (s.occupancyDown r).timeBase = s.timeBase := rfl
@[simp] theorem link_occupancyDown (s : State) (r : RingId) : (s.occupancyDown r).link = s.link := rfl
@[simp] theorem responses_occupancyDown (s : State) (r : RingId) : (s.occupancyDown r).responses = s.responses := rfl
@[simp] theorem pool_occupancyDown (s : State) (r : RingId) : (s.occupancyDown r).pool = s.pool := rfl
@[simp] theorem holds_occupancyDown (s : State) (r : RingId) : (s.occupancyDown r).holds = s.holds := rfl
@[simp] theorem verify_occupancyDown (s : State) (r : RingId) : (s.occupancyDown r).verify = s.verify := rfl
@[simp] theorem port_occupancyDown (s : State) (r : RingId) : (s.occupancyDown r).port = s.port := rfl
@[simp] theorem episode_occupancyDown (s : State) (r : RingId) : (s.occupancyDown r).episode = s.episode := rfl
@[simp] theorem control_occupancyDown (s : State) (r : RingId) : (s.occupancyDown r).control = s.control := rfl
@[simp] theorem report_occupancyDown (s : State) (r : RingId) : (s.occupancyDown r).report = s.report := rfl
@[simp] theorem counters_occupancyDown (s : State) (r : RingId) : (s.occupancyDown r).counters = s.counters := rfl
@[simp] theorem pending_occupancyDown (s : State) (r : RingId) : (s.occupancyDown r).pending = s.pending := rfl

/-! ## count -/

@[simp] theorem pins_count (s : State) (r : RingId) (c : Counter) : (s.count r c).pins = s.pins := rfl
@[simp] theorem timeBase_count (s : State) (r : RingId) (c : Counter) : (s.count r c).timeBase = s.timeBase := rfl
@[simp] theorem link_count (s : State) (r : RingId) (c : Counter) : (s.count r c).link = s.link := rfl
@[simp] theorem responses_count (s : State) (r : RingId) (c : Counter) : (s.count r c).responses = s.responses := rfl
@[simp] theorem rings_count (s : State) (r : RingId) (c : Counter) : (s.count r c).rings = s.rings := rfl
@[simp] theorem pool_count (s : State) (r : RingId) (c : Counter) : (s.count r c).pool = s.pool := rfl
@[simp] theorem holds_count (s : State) (r : RingId) (c : Counter) : (s.count r c).holds = s.holds := rfl
@[simp] theorem verify_count (s : State) (r : RingId) (c : Counter) : (s.count r c).verify = s.verify := rfl
@[simp] theorem port_count (s : State) (r : RingId) (c : Counter) : (s.count r c).port = s.port := rfl
@[simp] theorem episode_count (s : State) (r : RingId) (c : Counter) : (s.count r c).episode = s.episode := rfl
@[simp] theorem control_count (s : State) (r : RingId) (c : Counter) : (s.count r c).control = s.control := rfl
@[simp] theorem report_count (s : State) (r : RingId) (c : Counter) : (s.count r c).report = s.report := rfl
@[simp] theorem pending_count (s : State) (r : RingId) (c : Counter) : (s.count r c).pending = s.pending := rfl

/-! ## raisePeak -/

@[simp] theorem pins_raisePeak (s : State) (r : RingId) (c : Counter) (v : Word) : (s.raisePeak r c v).pins = s.pins := rfl
@[simp] theorem timeBase_raisePeak (s : State) (r : RingId) (c : Counter) (v : Word) : (s.raisePeak r c v).timeBase = s.timeBase := rfl
@[simp] theorem link_raisePeak (s : State) (r : RingId) (c : Counter) (v : Word) : (s.raisePeak r c v).link = s.link := rfl
@[simp] theorem responses_raisePeak (s : State) (r : RingId) (c : Counter) (v : Word) : (s.raisePeak r c v).responses = s.responses := rfl
@[simp] theorem rings_raisePeak (s : State) (r : RingId) (c : Counter) (v : Word) : (s.raisePeak r c v).rings = s.rings := rfl
@[simp] theorem pool_raisePeak (s : State) (r : RingId) (c : Counter) (v : Word) : (s.raisePeak r c v).pool = s.pool := rfl
@[simp] theorem holds_raisePeak (s : State) (r : RingId) (c : Counter) (v : Word) : (s.raisePeak r c v).holds = s.holds := rfl
@[simp] theorem verify_raisePeak (s : State) (r : RingId) (c : Counter) (v : Word) : (s.raisePeak r c v).verify = s.verify := rfl
@[simp] theorem port_raisePeak (s : State) (r : RingId) (c : Counter) (v : Word) : (s.raisePeak r c v).port = s.port := rfl
@[simp] theorem episode_raisePeak (s : State) (r : RingId) (c : Counter) (v : Word) : (s.raisePeak r c v).episode = s.episode := rfl
@[simp] theorem control_raisePeak (s : State) (r : RingId) (c : Counter) (v : Word) : (s.raisePeak r c v).control = s.control := rfl
@[simp] theorem report_raisePeak (s : State) (r : RingId) (c : Counter) (v : Word) : (s.raisePeak r c v).report = s.report := rfl
@[simp] theorem pending_raisePeak (s : State) (r : RingId) (c : Counter) (v : Word) : (s.raisePeak r c v).pending = s.pending := rfl

/-! ## measureHold -/

@[simp] theorem pins_measureHold (s : State) (h : HoldPlace) : (s.measureHold h).pins = s.pins := rfl
@[simp] theorem timeBase_measureHold (s : State) (h : HoldPlace) : (s.measureHold h).timeBase = s.timeBase := rfl
@[simp] theorem link_measureHold (s : State) (h : HoldPlace) : (s.measureHold h).link = s.link := rfl
@[simp] theorem responses_measureHold (s : State) (h : HoldPlace) : (s.measureHold h).responses = s.responses := rfl
@[simp] theorem rings_measureHold (s : State) (h : HoldPlace) : (s.measureHold h).rings = s.rings := rfl
@[simp] theorem pool_measureHold (s : State) (h : HoldPlace) : (s.measureHold h).pool = s.pool := rfl
@[simp] theorem holds_measureHold (s : State) (h : HoldPlace) : (s.measureHold h).holds = s.holds := rfl
@[simp] theorem verify_measureHold (s : State) (h : HoldPlace) : (s.measureHold h).verify = s.verify := rfl
@[simp] theorem port_measureHold (s : State) (h : HoldPlace) : (s.measureHold h).port = s.port := rfl
@[simp] theorem episode_measureHold (s : State) (h : HoldPlace) : (s.measureHold h).episode = s.episode := rfl
@[simp] theorem control_measureHold (s : State) (h : HoldPlace) : (s.measureHold h).control = s.control := rfl
@[simp] theorem report_measureHold (s : State) (h : HoldPlace) : (s.measureHold h).report = s.report := rfl
@[simp] theorem pending_measureHold (s : State) (h : HoldPlace) : (s.measureHold h).pending = s.pending := rfl

/-! ## occupancyUp -/

@[simp] theorem pins_occupancyUp (s : State) (r : RingId) : (s.occupancyUp r).pins = s.pins := rfl
@[simp] theorem timeBase_occupancyUp (s : State) (r : RingId) : (s.occupancyUp r).timeBase = s.timeBase := rfl
@[simp] theorem link_occupancyUp (s : State) (r : RingId) : (s.occupancyUp r).link = s.link := rfl
@[simp] theorem responses_occupancyUp (s : State) (r : RingId) : (s.occupancyUp r).responses = s.responses := rfl
@[simp] theorem pool_occupancyUp (s : State) (r : RingId) : (s.occupancyUp r).pool = s.pool := rfl
@[simp] theorem holds_occupancyUp (s : State) (r : RingId) : (s.occupancyUp r).holds = s.holds := rfl
@[simp] theorem verify_occupancyUp (s : State) (r : RingId) : (s.occupancyUp r).verify = s.verify := rfl
@[simp] theorem port_occupancyUp (s : State) (r : RingId) : (s.occupancyUp r).port = s.port := rfl
@[simp] theorem episode_occupancyUp (s : State) (r : RingId) : (s.occupancyUp r).episode = s.episode := rfl
@[simp] theorem control_occupancyUp (s : State) (r : RingId) : (s.occupancyUp r).control = s.control := rfl
@[simp] theorem report_occupancyUp (s : State) (r : RingId) : (s.occupancyUp r).report = s.report := rfl
@[simp] theorem pending_occupancyUp (s : State) (r : RingId) : (s.occupancyUp r).pending = s.pending := rfl

/-! ## offer -/

@[simp] theorem pins_offer (s : State) (c : Record) : (s.offer c).pins = s.pins := by
  unfold State.offer; split
  · rfl
  · split <;> rfl
@[simp] theorem timeBase_offer (s : State) (c : Record) : (s.offer c).timeBase = s.timeBase := by
  unfold State.offer; split
  · rfl
  · split <;> rfl
@[simp] theorem link_offer (s : State) (c : Record) : (s.offer c).link = s.link := by
  unfold State.offer; split
  · rfl
  · split <;> rfl
@[simp] theorem responses_offer (s : State) (c : Record) : (s.offer c).responses = s.responses := by
  unfold State.offer; split
  · rfl
  · split <;> rfl
@[simp] theorem rings_offer (s : State) (c : Record) : (s.offer c).rings = s.rings := by
  unfold State.offer; split
  · rfl
  · split <;> rfl
@[simp] theorem pool_offer (s : State) (c : Record) : (s.offer c).pool = s.pool := by
  unfold State.offer; split
  · rfl
  · split <;> rfl
@[simp] theorem holds_offer (s : State) (c : Record) : (s.offer c).holds = s.holds := by
  unfold State.offer; split
  · rfl
  · split <;> rfl
@[simp] theorem verify_offer (s : State) (c : Record) : (s.offer c).verify = s.verify := by
  unfold State.offer; split
  · rfl
  · split <;> rfl
@[simp] theorem port_offer (s : State) (c : Record) : (s.offer c).port = s.port := by
  unfold State.offer; split
  · rfl
  · split <;> rfl
@[simp] theorem episode_offer (s : State) (c : Record) : (s.offer c).episode = s.episode := by
  unfold State.offer; split
  · rfl
  · split <;> rfl
@[simp] theorem control_offer (s : State) (c : Record) : (s.offer c).control = s.control := by
  unfold State.offer; split
  · rfl
  · split <;> rfl
@[simp] theorem counters_offer (s : State) (c : Record) : (s.offer c).counters = s.counters := by
  unfold State.offer; split
  · rfl
  · split <;> rfl
@[simp] theorem pending_offer (s : State) (c : Record) : (s.offer c).pending = s.pending := by
  unfold State.offer; split
  · rfl
  · split <;> rfl

/-! ## raise -/

@[simp] theorem pins_raise (s : State) (c : Record) : (s.raise c).pins = s.pins := by simp [State.raise]
@[simp] theorem timeBase_raise (s : State) (c : Record) : (s.raise c).timeBase = s.timeBase := by simp [State.raise]
@[simp] theorem link_raise (s : State) (c : Record) : (s.raise c).link = s.link := by simp [State.raise]
@[simp] theorem responses_raise (s : State) (c : Record) : (s.raise c).responses = s.responses := by simp [State.raise]
@[simp] theorem rings_raise (s : State) (c : Record) : (s.raise c).rings = s.rings := by simp [State.raise]
@[simp] theorem pool_raise (s : State) (c : Record) : (s.raise c).pool = s.pool := by simp [State.raise]
@[simp] theorem holds_raise (s : State) (c : Record) : (s.raise c).holds = s.holds := by simp [State.raise]
@[simp] theorem verify_raise (s : State) (c : Record) : (s.raise c).verify = s.verify := by simp [State.raise]
@[simp] theorem port_raise (s : State) (c : Record) : (s.raise c).port = s.port := by simp [State.raise]
@[simp] theorem episode_raise (s : State) (c : Record) : (s.raise c).episode = s.episode := by simp [State.raise]
@[simp] theorem control_raise (s : State) (c : Record) : (s.raise c).control = s.control := by simp [State.raise]
@[simp] theorem counters_raise (s : State) (c : Record) : (s.raise c).counters = s.counters := by simp [State.raise]
@[simp] theorem pending_raise (s : State) (c : Record) : (s.raise c).pending = s.pending := by simp [State.raise]

/-! ## pushPass -/

@[simp] theorem pins_pushPass (s : State) (e : PassEntry) : (s.pushPass e).pins = s.pins := rfl
@[simp] theorem timeBase_pushPass (s : State) (e : PassEntry) : (s.pushPass e).timeBase = s.timeBase := rfl
@[simp] theorem link_pushPass (s : State) (e : PassEntry) : (s.pushPass e).link = s.link := rfl
@[simp] theorem responses_pushPass (s : State) (e : PassEntry) : (s.pushPass e).responses = s.responses := rfl
@[simp] theorem rings_pushPass (s : State) (e : PassEntry) : (s.pushPass e).rings = s.rings := rfl
@[simp] theorem pool_pushPass (s : State) (e : PassEntry) : (s.pushPass e).pool = s.pool := rfl
@[simp] theorem holds_pushPass (s : State) (e : PassEntry) : (s.pushPass e).holds = s.holds := rfl
@[simp] theorem verify_pushPass (s : State) (e : PassEntry) : (s.pushPass e).verify = s.verify := rfl
@[simp] theorem episode_pushPass (s : State) (e : PassEntry) : (s.pushPass e).episode = s.episode := rfl
@[simp] theorem control_pushPass (s : State) (e : PassEntry) : (s.pushPass e).control = s.control := rfl
@[simp] theorem report_pushPass (s : State) (e : PassEntry) : (s.pushPass e).report = s.report := rfl
@[simp] theorem counters_pushPass (s : State) (e : PassEntry) : (s.pushPass e).counters = s.counters := rfl
@[simp] theorem pending_pushPass (s : State) (e : PassEntry) : (s.pushPass e).pending = s.pending := rfl

/-! ## passRead -/

@[simp] theorem pins_passRead (s : State) (o : ReadOutcome) (r : ReadTx) : (s.passRead o r).pins = s.pins := rfl
@[simp] theorem timeBase_passRead (s : State) (o : ReadOutcome) (r : ReadTx) : (s.passRead o r).timeBase = s.timeBase := rfl
@[simp] theorem link_passRead (s : State) (o : ReadOutcome) (r : ReadTx) : (s.passRead o r).link = s.link := rfl
@[simp] theorem responses_passRead (s : State) (o : ReadOutcome) (r : ReadTx) : (s.passRead o r).responses = s.responses := rfl
@[simp] theorem rings_passRead (s : State) (o : ReadOutcome) (r : ReadTx) : (s.passRead o r).rings = s.rings := rfl
@[simp] theorem pool_passRead (s : State) (o : ReadOutcome) (r : ReadTx) : (s.passRead o r).pool = s.pool := rfl
@[simp] theorem holds_passRead (s : State) (o : ReadOutcome) (r : ReadTx) : (s.passRead o r).holds = s.holds := rfl
@[simp] theorem verify_passRead (s : State) (o : ReadOutcome) (r : ReadTx) : (s.passRead o r).verify = s.verify := rfl
@[simp] theorem episode_passRead (s : State) (o : ReadOutcome) (r : ReadTx) : (s.passRead o r).episode = s.episode := rfl
@[simp] theorem control_passRead (s : State) (o : ReadOutcome) (r : ReadTx) : (s.passRead o r).control = s.control := rfl
@[simp] theorem report_passRead (s : State) (o : ReadOutcome) (r : ReadTx) : (s.passRead o r).report = s.report := rfl
@[simp] theorem counters_passRead (s : State) (o : ReadOutcome) (r : ReadTx) : (s.passRead o r).counters = s.counters := rfl
@[simp] theorem pending_passRead (s : State) (o : ReadOutcome) (r : ReadTx) : (s.passRead o r).pending = s.pending := rfl

/-! ## passWrite -/

@[simp] theorem pins_passWrite (s : State) (k : Option TrackTag) (w : WriteTx) : (s.passWrite k w).pins = s.pins := rfl
@[simp] theorem timeBase_passWrite (s : State) (k : Option TrackTag) (w : WriteTx) : (s.passWrite k w).timeBase = s.timeBase := rfl
@[simp] theorem link_passWrite (s : State) (k : Option TrackTag) (w : WriteTx) : (s.passWrite k w).link = s.link := rfl
@[simp] theorem responses_passWrite (s : State) (k : Option TrackTag) (w : WriteTx) : (s.passWrite k w).responses = s.responses := rfl
@[simp] theorem rings_passWrite (s : State) (k : Option TrackTag) (w : WriteTx) : (s.passWrite k w).rings = s.rings := rfl
@[simp] theorem pool_passWrite (s : State) (k : Option TrackTag) (w : WriteTx) : (s.passWrite k w).pool = s.pool := rfl
@[simp] theorem holds_passWrite (s : State) (k : Option TrackTag) (w : WriteTx) : (s.passWrite k w).holds = s.holds := rfl
@[simp] theorem verify_passWrite (s : State) (k : Option TrackTag) (w : WriteTx) : (s.passWrite k w).verify = s.verify := rfl
@[simp] theorem episode_passWrite (s : State) (k : Option TrackTag) (w : WriteTx) : (s.passWrite k w).episode = s.episode := rfl
@[simp] theorem control_passWrite (s : State) (k : Option TrackTag) (w : WriteTx) : (s.passWrite k w).control = s.control := rfl
@[simp] theorem report_passWrite (s : State) (k : Option TrackTag) (w : WriteTx) : (s.passWrite k w).report = s.report := rfl
@[simp] theorem counters_passWrite (s : State) (k : Option TrackTag) (w : WriteTx) : (s.passWrite k w).counters = s.counters := rfl
@[simp] theorem pending_passWrite (s : State) (k : Option TrackTag) (w : WriteTx) : (s.passWrite k w).pending = s.pending := rfl

/-! ## refuse -/

@[simp] theorem pins_refuse (s : State) (w : WriteTx) : (s.refuse w).pins = s.pins := rfl
@[simp] theorem timeBase_refuse (s : State) (w : WriteTx) : (s.refuse w).timeBase = s.timeBase := rfl
@[simp] theorem link_refuse (s : State) (w : WriteTx) : (s.refuse w).link = s.link := rfl
@[simp] theorem rings_refuse (s : State) (w : WriteTx) : (s.refuse w).rings = s.rings := rfl
@[simp] theorem pool_refuse (s : State) (w : WriteTx) : (s.refuse w).pool = s.pool := rfl
@[simp] theorem holds_refuse (s : State) (w : WriteTx) : (s.refuse w).holds = s.holds := rfl
@[simp] theorem verify_refuse (s : State) (w : WriteTx) : (s.refuse w).verify = s.verify := rfl
@[simp] theorem port_refuse (s : State) (w : WriteTx) : (s.refuse w).port = s.port := rfl
@[simp] theorem episode_refuse (s : State) (w : WriteTx) : (s.refuse w).episode = s.episode := rfl
@[simp] theorem control_refuse (s : State) (w : WriteTx) : (s.refuse w).control = s.control := rfl
@[simp] theorem report_refuse (s : State) (w : WriteTx) : (s.refuse w).report = s.report := rfl
@[simp] theorem counters_refuse (s : State) (w : WriteTx) : (s.refuse w).counters = s.counters := rfl
@[simp] theorem pending_refuse (s : State) (w : WriteTx) : (s.refuse w).pending = s.pending := rfl

/-! ## answer -/

@[simp] theorem pins_answer (s : State) (c : ResponseCode) (r : ReadTx) : (s.answer c r).pins = s.pins := rfl
@[simp] theorem timeBase_answer (s : State) (c : ResponseCode) (r : ReadTx) : (s.answer c r).timeBase = s.timeBase := rfl
@[simp] theorem link_answer (s : State) (c : ResponseCode) (r : ReadTx) : (s.answer c r).link = s.link := rfl
@[simp] theorem rings_answer (s : State) (c : ResponseCode) (r : ReadTx) : (s.answer c r).rings = s.rings := rfl
@[simp] theorem pool_answer (s : State) (c : ResponseCode) (r : ReadTx) : (s.answer c r).pool = s.pool := rfl
@[simp] theorem holds_answer (s : State) (c : ResponseCode) (r : ReadTx) : (s.answer c r).holds = s.holds := rfl
@[simp] theorem verify_answer (s : State) (c : ResponseCode) (r : ReadTx) : (s.answer c r).verify = s.verify := rfl
@[simp] theorem port_answer (s : State) (c : ResponseCode) (r : ReadTx) : (s.answer c r).port = s.port := rfl
@[simp] theorem episode_answer (s : State) (c : ResponseCode) (r : ReadTx) : (s.answer c r).episode = s.episode := rfl
@[simp] theorem control_answer (s : State) (c : ResponseCode) (r : ReadTx) : (s.answer c r).control = s.control := rfl
@[simp] theorem report_answer (s : State) (c : ResponseCode) (r : ReadTx) : (s.answer c r).report = s.report := rfl
@[simp] theorem counters_answer (s : State) (c : ResponseCode) (r : ReadTx) : (s.answer c r).counters = s.counters := rfl
@[simp] theorem pending_answer (s : State) (c : ResponseCode) (r : ReadTx) : (s.answer c r).pending = s.pending := rfl

/-! ## refuseInWindow -/

@[simp] theorem pins_refuseInWindow (s : State) (r : RingId) (c : Record) (w : WriteTx) : (s.refuseInWindow r c w).pins = s.pins := by simp [State.refuseInWindow]
@[simp] theorem timeBase_refuseInWindow (s : State) (r : RingId) (c : Record) (w : WriteTx) : (s.refuseInWindow r c w).timeBase = s.timeBase := by simp [State.refuseInWindow]
@[simp] theorem link_refuseInWindow (s : State) (r : RingId) (c : Record) (w : WriteTx) : (s.refuseInWindow r c w).link = s.link := by simp [State.refuseInWindow]
@[simp] theorem rings_refuseInWindow (s : State) (r : RingId) (c : Record) (w : WriteTx) : (s.refuseInWindow r c w).rings = s.rings := by simp [State.refuseInWindow]
@[simp] theorem pool_refuseInWindow (s : State) (r : RingId) (c : Record) (w : WriteTx) : (s.refuseInWindow r c w).pool = s.pool := by simp [State.refuseInWindow]
@[simp] theorem holds_refuseInWindow (s : State) (r : RingId) (c : Record) (w : WriteTx) : (s.refuseInWindow r c w).holds = s.holds := by simp [State.refuseInWindow]
@[simp] theorem verify_refuseInWindow (s : State) (r : RingId) (c : Record) (w : WriteTx) : (s.refuseInWindow r c w).verify = s.verify := by simp [State.refuseInWindow]
@[simp] theorem port_refuseInWindow (s : State) (r : RingId) (c : Record) (w : WriteTx) : (s.refuseInWindow r c w).port = s.port := by simp [State.refuseInWindow]
@[simp] theorem episode_refuseInWindow (s : State) (r : RingId) (c : Record) (w : WriteTx) : (s.refuseInWindow r c w).episode = s.episode := by simp [State.refuseInWindow]
@[simp] theorem control_refuseInWindow (s : State) (r : RingId) (c : Record) (w : WriteTx) : (s.refuseInWindow r c w).control = s.control := by simp [State.refuseInWindow]
@[simp] theorem pending_refuseInWindow (s : State) (r : RingId) (c : Record) (w : WriteTx) : (s.refuseInWindow r c w).pending = s.pending := by simp [State.refuseInWindow]

/-! ## modLoad -/

@[simp] theorem pins_modLoad (s : State) (f : Load → Load) : (s.modLoad f).pins = s.pins := rfl
@[simp] theorem timeBase_modLoad (s : State) (f : Load → Load) : (s.modLoad f).timeBase = s.timeBase := rfl
@[simp] theorem link_modLoad (s : State) (f : Load → Load) : (s.modLoad f).link = s.link := rfl
@[simp] theorem responses_modLoad (s : State) (f : Load → Load) : (s.modLoad f).responses = s.responses := rfl
@[simp] theorem rings_modLoad (s : State) (f : Load → Load) : (s.modLoad f).rings = s.rings := rfl
@[simp] theorem pool_modLoad (s : State) (f : Load → Load) : (s.modLoad f).pool = s.pool := rfl
@[simp] theorem holds_modLoad (s : State) (f : Load → Load) : (s.modLoad f).holds = s.holds := rfl
@[simp] theorem verify_modLoad (s : State) (f : Load → Load) : (s.modLoad f).verify = s.verify := rfl
@[simp] theorem port_modLoad (s : State) (f : Load → Load) : (s.modLoad f).port = s.port := rfl
@[simp] theorem episode_modLoad (s : State) (f : Load → Load) : (s.modLoad f).episode = s.episode := rfl
@[simp] theorem report_modLoad (s : State) (f : Load → Load) : (s.modLoad f).report = s.report := rfl
@[simp] theorem counters_modLoad (s : State) (f : Load → Load) : (s.modLoad f).counters = s.counters := rfl
@[simp] theorem pending_modLoad (s : State) (f : Load → Load) : (s.modLoad f).pending = s.pending := rfl

/-! ## issue -/

@[simp] theorem pins_issue (s : State) (q : Request) : (s.issue q).pins = s.pins := rfl
@[simp] theorem timeBase_issue (s : State) (q : Request) : (s.issue q).timeBase = s.timeBase := rfl
@[simp] theorem link_issue (s : State) (q : Request) : (s.issue q).link = s.link := rfl
@[simp] theorem responses_issue (s : State) (q : Request) : (s.issue q).responses = s.responses := rfl
@[simp] theorem rings_issue (s : State) (q : Request) : (s.issue q).rings = s.rings := rfl
@[simp] theorem pool_issue (s : State) (q : Request) : (s.issue q).pool = s.pool := rfl
@[simp] theorem holds_issue (s : State) (q : Request) : (s.issue q).holds = s.holds := rfl
@[simp] theorem verify_issue (s : State) (q : Request) : (s.issue q).verify = s.verify := rfl
@[simp] theorem episode_issue (s : State) (q : Request) : (s.issue q).episode = s.episode := rfl
@[simp] theorem control_issue (s : State) (q : Request) : (s.issue q).control = s.control := rfl
@[simp] theorem report_issue (s : State) (q : Request) : (s.issue q).report = s.report := rfl
@[simp] theorem counters_issue (s : State) (q : Request) : (s.issue q).counters = s.counters := rfl
@[simp] theorem pending_issue (s : State) (q : Request) : (s.issue q).pending = s.pending := rfl

/-! ## retire -/

@[simp] theorem pins_retire (s : State) : (s.retire).pins = s.pins := rfl
@[simp] theorem timeBase_retire (s : State) : (s.retire).timeBase = s.timeBase := rfl
@[simp] theorem link_retire (s : State) : (s.retire).link = s.link := rfl
@[simp] theorem responses_retire (s : State) : (s.retire).responses = s.responses := rfl
@[simp] theorem rings_retire (s : State) : (s.retire).rings = s.rings := rfl
@[simp] theorem pool_retire (s : State) : (s.retire).pool = s.pool := rfl
@[simp] theorem holds_retire (s : State) : (s.retire).holds = s.holds := rfl
@[simp] theorem verify_retire (s : State) : (s.retire).verify = s.verify := rfl
@[simp] theorem episode_retire (s : State) : (s.retire).episode = s.episode := rfl
@[simp] theorem control_retire (s : State) : (s.retire).control = s.control := rfl
@[simp] theorem report_retire (s : State) : (s.retire).report = s.report := rfl
@[simp] theorem counters_retire (s : State) : (s.retire).counters = s.counters := rfl
@[simp] theorem pending_retire (s : State) : (s.retire).pending = s.pending := rfl

/-! ## freeEntry -/

@[simp] theorem pins_freeEntry (s : State) (e : PassEntry) : (s.freeEntry e).pins = s.pins := rfl
@[simp] theorem timeBase_freeEntry (s : State) (e : PassEntry) : (s.freeEntry e).timeBase = s.timeBase := rfl
@[simp] theorem link_freeEntry (s : State) (e : PassEntry) : (s.freeEntry e).link = s.link := rfl
@[simp] theorem responses_freeEntry (s : State) (e : PassEntry) : (s.freeEntry e).responses = s.responses := rfl
@[simp] theorem rings_freeEntry (s : State) (e : PassEntry) : (s.freeEntry e).rings = s.rings := rfl
@[simp] theorem pool_freeEntry (s : State) (e : PassEntry) : (s.freeEntry e).pool = s.pool := rfl
@[simp] theorem holds_freeEntry (s : State) (e : PassEntry) : (s.freeEntry e).holds = s.holds := rfl
@[simp] theorem verify_freeEntry (s : State) (e : PassEntry) : (s.freeEntry e).verify = s.verify := rfl
@[simp] theorem episode_freeEntry (s : State) (e : PassEntry) : (s.freeEntry e).episode = s.episode := rfl
@[simp] theorem control_freeEntry (s : State) (e : PassEntry) : (s.freeEntry e).control = s.control := rfl
@[simp] theorem report_freeEntry (s : State) (e : PassEntry) : (s.freeEntry e).report = s.report := rfl
@[simp] theorem counters_freeEntry (s : State) (e : PassEntry) : (s.freeEntry e).counters = s.counters := rfl
@[simp] theorem pending_freeEntry (s : State) (e : PassEntry) : (s.freeEntry e).pending = s.pending := rfl

/-! ## lowerOutstanding -/

@[simp] theorem pins_lowerOutstanding (s : State) (p : Nat) : (s.lowerOutstanding p).pins = s.pins := by simp [State.lowerOutstanding]
@[simp] theorem timeBase_lowerOutstanding (s : State) (p : Nat) : (s.lowerOutstanding p).timeBase = s.timeBase := by simp [State.lowerOutstanding]
@[simp] theorem link_lowerOutstanding (s : State) (p : Nat) : (s.lowerOutstanding p).link = s.link := by simp [State.lowerOutstanding]
@[simp] theorem responses_lowerOutstanding (s : State) (p : Nat) : (s.lowerOutstanding p).responses = s.responses := by simp [State.lowerOutstanding]
@[simp] theorem rings_lowerOutstanding (s : State) (p : Nat) : (s.lowerOutstanding p).rings = s.rings := by simp [State.lowerOutstanding]
@[simp] theorem holds_lowerOutstanding (s : State) (p : Nat) : (s.lowerOutstanding p).holds = s.holds := by simp [State.lowerOutstanding]
@[simp] theorem verify_lowerOutstanding (s : State) (p : Nat) : (s.lowerOutstanding p).verify = s.verify := by simp [State.lowerOutstanding]
@[simp] theorem port_lowerOutstanding (s : State) (p : Nat) : (s.lowerOutstanding p).port = s.port := by simp [State.lowerOutstanding]
@[simp] theorem episode_lowerOutstanding (s : State) (p : Nat) : (s.lowerOutstanding p).episode = s.episode := by simp [State.lowerOutstanding]
@[simp] theorem control_lowerOutstanding (s : State) (p : Nat) : (s.lowerOutstanding p).control = s.control := by simp [State.lowerOutstanding]
@[simp] theorem report_lowerOutstanding (s : State) (p : Nat) : (s.lowerOutstanding p).report = s.report := by simp [State.lowerOutstanding]
@[simp] theorem counters_lowerOutstanding (s : State) (p : Nat) : (s.lowerOutstanding p).counters = s.counters := by simp [State.lowerOutstanding]
@[simp] theorem pending_lowerOutstanding (s : State) (p : Nat) : (s.lowerOutstanding p).pending = s.pending := by simp [State.lowerOutstanding]

/-! ## What they write -/

/-- A tracking change is read back. -/
@[simp] theorem tracking_modTracking (s : State) (r : RingId) (f : Tracking → Tracking) :
    (s.modTracking r f).rings[r].tracking = f s.rings[r].tracking := by
  simp [State.modTracking]

/-- A passed transaction is the last entry. -/
@[simp] theorem passThrough_pushPass (s : State) (e : PassEntry) :
    (s.pushPass e).port.passThrough = s.port.passThrough ++ [e] := rfl

/-- A passed write is the last entry. -/
@[simp] theorem passThrough_passWrite (s : State) (k : Option TrackTag) (w : WriteTx) :
    (s.passWrite k w).port.passThrough =
      s.port.passThrough ++ [⟨w.initiator, w.tag, w.address, w.length, .write w.data k, false⟩] := rfl

/-- A passed read is the last entry. -/
@[simp] theorem passThrough_passRead (s : State) (o : ReadOutcome) (r : ReadTx) :
    (s.passRead o r).port.passThrough =
      s.port.passThrough ++ [⟨r.initiator, r.tag, r.address, r.length, .read o, false⟩] := rfl

/-- An entry into the queue issues nothing. -/
@[simp] theorem inFlight_pushPass (s : State) (e : PassEntry) : (s.pushPass e).port.inFlight = s.port.inFlight := rfl

/-- A refused write is answered REFUSED. -/
@[simp] theorem responses_refuse (s : State) (w : WriteTx) :
    (s.refuse w).responses = s.responses ++ [⟨w.initiator, w.tag, .refused, []⟩] := rfl

/-- An answered read carries no data. -/
@[simp] theorem responses_answer (s : State) (c : ResponseCode) (r : ReadTx) :
    (s.answer c r).responses = s.responses ++ [⟨r.initiator, r.tag, c, []⟩] := rfl

/-- A record offered keeps the buffer within its eight places (R164). -/
theorem buffer_offer_le (s : State) (c : Record) (h : s.report.buffer.length ≤ recordBufferDepth) :
    (s.offer c).report.buffer.length ≤ recordBufferDepth := by
  unfold State.offer
  split
  · exact h
  · split
    · simp only [report_modReport]
      split
      · simp only [List.length_append, List.length_singleton]; omega
      · exact h
    · exact h

/-- A record raised keeps the buffer within its eight places (R164). -/
theorem buffer_raise_le (s : State) (c : Record) (h : s.report.buffer.length ≤ recordBufferDepth) :
    (s.raise c).report.buffer.length ≤ recordBufferDepth := buffer_offer_le s _ h

/-- The engine's other fields are not an offer's concern. -/
theorem offer_head_tail (s : State) (c : Record) :
    (s.offer c).report.head = s.report.head ∧ (s.offer c).report.tail = s.report.tail := by
  unfold State.offer
  split
  · exact ⟨rfl, rfl⟩
  · split
    · simp only [report_modReport]; split <;> exact ⟨rfl, rfl⟩
    · exact ⟨rfl, rfl⟩

/-- The operations above read a berth as it was. -/
@[simp] theorem berth_modRing (s : State) (r : RingId) (f : RingRecord → RingRecord) (p : Nat) :
    (s.modRing r f).berth p = s.berth p := rfl

@[simp] theorem berth_raise (s : State) (c : Record) (p : Nat) : (s.raise c).berth p = s.berth p :=
  berth_congr _ _ _ (pool_raise s c)

@[simp] theorem berth_count (s : State) (r : RingId) (c : Counter) (p : Nat) : (s.count r c).berth p = s.berth p := rfl

@[simp] theorem berth_modTracking (s : State) (r : RingId) (f : Tracking → Tracking) (p : Nat) :
    (s.modTracking r f).berth p = s.berth p := rfl

end Sys2Proof.Machine
end

