-- ==== Sys2Proof/Laws/Frames.lean ====
section
/-! SUPPORT. What no operation of an event changes: the pins, the microsecond count, the link and the queue of
commands; then what the port's acceptance leaves of them, and that it leaves the link settled. -/

namespace Sys2Proof.Machine

open Sys2Proof Sys2Proof.Config


/-- The pins, the microsecond count, the link and the queue of commands: what the operations below leave. -/
def State.outer (s : State) : Pins × Word × List Transaction × List Instr := (s.pins, s.timeBase.now, s.link, s.pending)

@[simp] theorem outer_withPool (s : State) (v : Vector Berth 2048) :
    ({ s with pool := v } : State).outer = s.outer := rfl

@[simp] theorem outer_withCounters (s : State) (v : Vector CounterSet 8) :
    ({ s with counters := v } : State).outer = s.outer := rfl

theorem outer_foldl {α : Type} (g : State → α → State) (h : ∀ s a, (g s a).outer = s.outer) (l : List α) (s : State) :
    (l.foldl g s).outer = s.outer := by
  induction l generalizing s with
  | nil => rfl
  | cons a l ih => rw [List.foldl_cons, ih, h]

theorem outer_of (s t : State) (h1 : t.pins = s.pins) (h2 : t.timeBase = s.timeBase) (h3 : t.link = s.link)
    (h4 : t.pending = s.pending) : t.outer = s.outer := by
  simp [State.outer, h1, h2, h3, h4]

@[simp] theorem outer_modRing (s : State) (r : RingId) (f : RingRecord → RingRecord) :
    (s.modRing r f).outer = s.outer := rfl

@[simp] theorem outer_modTracking (s : State) (r : RingId) (f : Tracking → Tracking) :
    (s.modTracking r f).outer = s.outer := rfl

@[simp] theorem outer_modBerth (s : State) (p : Nat) (f : Berth → Berth) :
    (s.modBerth p f).outer = s.outer := outer_of _ _ (by simp) (by simp) (by simp) (by simp)

@[simp] theorem outer_modHolds (s : State) (f : List HoldPlace → List HoldPlace) :
    (s.modHolds f).outer = s.outer := rfl

@[simp] theorem outer_modVerify (s : State) (f : VerifyEngine → VerifyEngine) : (s.modVerify f).outer = s.outer := rfl

@[simp] theorem outer_modPort (s : State) (f : MemoryPort → MemoryPort) : (s.modPort f).outer = s.outer := rfl

@[simp] theorem outer_setEpisode (s : State) (b : Bool) : (s.setEpisode b).outer = s.outer := rfl

@[simp] theorem outer_modControl (s : State) (f : ControlUnit → ControlUnit) : (s.modControl f).outer = s.outer := rfl

@[simp] theorem outer_modReport (s : State) (f : ReportEngine → ReportEngine) : (s.modReport f).outer = s.outer := rfl

@[simp] theorem outer_modCounters (s : State) (r : RingId) (f : CounterSet → CounterSet) :
    (s.modCounters r f).outer = s.outer := rfl

@[simp] theorem outer_respond (s : State) (i : Initiator) (t : Tag) (code : ResponseCode) (data : List Byte) :
    (s.respond i t code data).outer = s.outer := rfl

@[simp] theorem outer_count (s : State) (r : RingId) (c : Counter) : (s.count r c).outer = s.outer := rfl

@[simp] theorem outer_raisePeak (s : State) (r : RingId) (c : Counter) (v : Word) :
    (s.raisePeak r c v).outer = s.outer := rfl

@[simp] theorem outer_occupancyUp (s : State) (r : RingId) : (s.occupancyUp r).outer = s.outer := rfl

@[simp] theorem outer_occupancyDown (s : State) (r : RingId) : (s.occupancyDown r).outer = s.outer := rfl

@[simp] theorem outer_offer (s : State) (c : Record) :
    (s.offer c).outer = s.outer := outer_of _ _ (by simp) (by simp) (by simp) (by simp)

@[simp] theorem outer_raise (s : State) (c : Record) :
    (s.raise c).outer = s.outer := outer_of _ _ (by simp) (by simp) (by simp) (by simp)

@[simp] theorem outer_pushPass (s : State) (e : PassEntry) : (s.pushPass e).outer = s.outer := rfl

@[simp] theorem outer_passRead (s : State) (outcome : ReadOutcome) (r : ReadTx) :
    (s.passRead outcome r).outer = s.outer := rfl

@[simp] theorem outer_passWrite (s : State) (tracked : Option TrackTag) (w : WriteTx) :
    (s.passWrite tracked w).outer = s.outer := rfl

@[simp] theorem outer_refuse (s : State) (w : WriteTx) : (s.refuse w).outer = s.outer := rfl

@[simp] theorem outer_answer (s : State) (code : ResponseCode) (r : ReadTx) : (s.answer code r).outer = s.outer := rfl

@[simp] theorem outer_refuseInWindow (s : State) (r : RingId) (c : Record) (w : WriteTx) :
    (s.refuseInWindow r c w).outer = s.outer := outer_of _ _ (by simp) (by simp) (by simp) (by simp)

@[simp] theorem outer_measureHold (s : State) (h : HoldPlace) : (s.measureHold h).outer = s.outer := rfl

@[simp] theorem outer_releaseHolds (s : State) (p : Nat) (outcome : ReadOutcome) :
    (s.releaseHolds p outcome).outer = s.outer := by
  unfold State.releaseHolds
  simp only [outer_modHolds]
  exact outer_foldl _ (fun _ _ => by simp) _ _

@[simp] theorem outer_endHold (s : State) (measured : Bool) (h : HoldPlace) :
    (s.endHold measured h).outer = s.outer := by
  unfold State.endHold; split <;> simp

@[simp] theorem outer_endHolds (s : State) (measured : Bool) (which : HoldPlace → Bool) :
    (s.endHolds measured which).outer = s.outer := by
  simp [State.endHolds, outer_foldl]

@[simp] theorem outer_offerHold (s : State) (r : RingId) (index : Nat) (t : ReadTx) :
    (s.offerHold r index t).outer = s.outer := by
  unfold State.offerHold; split <;> simp

@[simp] theorem outer_expireHold (s : State) (h : HoldPlace) : (s.expireHold h).outer = s.outer := by
  simp [State.expireHold]

@[simp] theorem outer_enterReleased (s : State) : (s.enterReleased).outer = s.outer := by
  unfold State.enterReleased
  repeat' split
  all_goals simp

@[simp] theorem outer_freeBerth (s : State) (r : RingId) (index : Nat) : (s.freeBerth r index).outer = s.outer := by
  simp [State.freeBerth]

@[simp] theorem outer_formPending (s : State) (r : RingId) (index : Nat) :
    (s.formPending r index).outer = s.outer := by
  unfold State.formPending
  dsimp only
  repeat' split
  all_goals simp

@[simp] theorem outer_releaseSlot (s : State) (r : RingId) (k : SlotId) (index : Nat) :
    (s.releaseSlot r k index).outer = s.outer := by
  unfold State.releaseSlot
  dsimp only
  repeat' split
  all_goals simp

@[simp] theorem outer_releaseSlotWhere (s : State) (r : RingId) (k : SlotId) (which : Berth → Bool) :
    (s.releaseSlotWhere r k which).outer = s.outer := by
  unfold State.releaseSlotWhere
  exact outer_foldl _ (fun _ _ => by split <;> simp) _ _

@[simp] theorem outer_publish (s : State) (r : RingId) (index : Nat) : (s.publish r index).outer = s.outer := by
  simp [State.publish]

@[simp] theorem outer_publishStaged (s : State) (r : RingId) (index : Nat) :
    (s.publishStaged r index).outer = s.outer := by
  unfold State.publishStaged; split <;> simp

@[simp] theorem outer_publishGroups (s : State) (r : RingId) (bases : List Seq) :
    (s.publishGroups r bases).outer = s.outer := by
  simp [State.publishGroups, outer_foldl]

@[simp] theorem outer_publishAllStaged (s : State) (r : RingId) : (s.publishAllStaged r).outer = s.outer := by
  simp [State.publishAllStaged]

@[simp] theorem outer_groupTest (s : State) (r : RingId) : (s.groupTest r).outer = s.outer := by
  unfold State.groupTest; split <;> simp

@[simp] theorem outer_stage (s : State) (r : RingId) (index : Nat) : (s.stage r index).outer = s.outer := by
  simp [State.stage]

@[simp] theorem outer_publicationStep (s : State) (r : RingId) (index : Nat) :
    (s.publicationStep r index).outer = s.outer := by
  unfold State.publicationStep
  dsimp only
  repeat' split
  all_goals simp

@[simp] theorem outer_damage (s : State) (r : RingId) (index : Nat) (cause : DamageCause) :
    (s.damage r index cause).outer = s.outer := by
  unfold State.damage
  dsimp only
  repeat' split
  all_goals simp

@[simp] theorem outer_abandonCurrent (s : State) (r : RingId) : (s.abandonCurrent r).outer = s.outer := by
  unfold State.abandonCurrent; split <;> simp

@[simp] theorem outer_returnToHunt (s : State) (r : RingId) : (s.returnToHunt r).outer = s.outer := by
  simp [State.returnToHunt]

@[simp] theorem outer_loseLock (s : State) (r : RingId) (cause : LossCause) :
    (s.loseLock r cause).outer = s.outer := by
  simp [State.loseLock]

@[simp] theorem outer_acquireLock (s : State) (r : RingId) (b : Nat) (q : Seq) (producer : Initiator) :
    (s.acquireLock r b q producer).outer = s.outer := by
  unfold State.acquireLock
  dsimp only
  repeat' split
  all_goals simp

@[simp] theorem outer_debounceCode (s : State) (r : RingId) (index : Nat) (k : BitVec 4) :
    (s.debounceCode r index k).outer = s.outer := by
  unfold State.debounceCode
  dsimp only
  repeat' split
  all_goals simp

@[simp] theorem outer_restartQuiet (s : State) (r : RingId) : (s.restartQuiet r).outer = s.outer := by
  unfold State.restartQuiet
  dsimp only
  repeat' split
  all_goals simp

@[simp] theorem outer_expireQuiet (s : State) (r : RingId) : (s.expireQuiet r).outer = s.outer := by
  unfold State.expireQuiet
  dsimp only
  repeat' split
  all_goals simp

@[simp] theorem outer_faultHold (s : State) (r : RingId) (cause : ReportKind) (index : Nat) (initiator : Byte) :
    (s.faultHold r cause index initiator).outer = s.outer := by
  unfold State.faultHold
  dsimp only
  repeat' split
  all_goals simp

@[simp] theorem outer_lockGroup (s : State) (r : RingId) (x : Examined) : (s.lockGroup r x).outer = s.outer := by
  simp [State.lockGroup]

@[simp] theorem outer_examineSearch (s : State) (r : RingId) (x : Examined) :
    (s.examineSearch r x).outer = s.outer := by
  unfold State.examineSearch
  dsimp only
  repeat' split
  all_goals simp

@[simp] theorem outer_examineUngrouped (s : State) (r : RingId) (x : Examined) :
    (s.examineUngrouped r x).outer = s.outer := by
  unfold State.examineUngrouped
  dsimp only
  repeat' split
  all_goals simp

@[simp] theorem outer_loseGroup (s : State) (r : RingId) (x : Examined) : (s.loseGroup r x).outer = s.outer := by
  simp [State.loseGroup]

@[simp] theorem outer_examineLocked (s : State) (r : RingId) (x : Examined) :
    (s.examineLocked r x).outer = s.outer := by
  unfold State.examineLocked
  dsimp only
  repeat' split
  all_goals simp

@[simp] theorem outer_examine (s : State) (r : RingId) (x : Examined) : (s.examine r x).outer = s.outer := by
  unfold State.examine
  dsimp only
  repeat' split
  all_goals simp

@[simp] theorem outer_trackWrite (s : State) (r : RingId) (index offset : Nat) (w : WriteTx) :
    (s.trackWrite r index offset w).outer = s.outer := by
  simp [State.trackWrite]

@[simp] theorem outer_watchExcess (s : State) (r : RingId) : (s.watchExcess r).outer = s.outer := by
  unfold State.watchExcess
  dsimp only
  repeat' split
  all_goals simp

@[simp] theorem outer_clearQuietFlag (s : State) (r : RingId) : (s.clearQuietFlag r).outer = s.outer := by
  simp [State.clearQuietFlag]

@[simp] theorem outer_seal (s : State) (r : RingId) (index : Nat) : (s.seal r index).outer = s.outer := by
  unfold State.seal
  dsimp only
  repeat' split
  all_goals simp

@[simp] theorem outer_sealIfComplete (s : State) (r : RingId) (index : Nat) :
    (s.sealIfComplete r index).outer = s.outer := by
  unfold State.sealIfComplete
  dsimp only
  repeat' split
  all_goals simp

@[simp] theorem outer_judgeClaim (s : State) (r : RingId) (c : Claim) : (s.judgeClaim r c).outer = s.outer := by
  unfold State.judgeClaim
  repeat' split
  all_goals simp

@[simp] theorem outer_claim (s : State) (r : RingId) (c : Claim) (w : WriteTx) : (s.claim r c w).outer = s.outer := by
  unfold State.claim; split <;> simp

@[simp] theorem outer_reclaim (s : State) (r : RingId) (index : Nat) (writer : Initiator) :
    (s.reclaim r index writer).outer = s.outer := by
  unfold State.reclaim
  dsimp only
  repeat' split
  all_goals simp

theorem outer_overrun (s : State) (r : RingId) (index : Nat) (w : WriteTx) (j : Bool → State → State)
    (h : ∀ b s, (j b s).outer = s.outer) : (s.overrun r index w j).outer = s.outer := by
  unfold State.overrun
  dsimp only
  by_cases hf : (s.ringBerth r index).state = .free
  · rw [if_pos hf, h]
  · rw [if_neg hf]
    cases s.rings[r].profile.overrun
    · simp
    · simp only [h, outer_reclaim, outer_count]

@[simp] theorem outer_refuseLive (s : State) (r : RingId) (index : Nat) (w : WriteTx) :
    (s.refuseLive r index w).outer = s.outer := by
  simp [State.refuseLive]

@[simp] theorem outer_refuseConflict (s : State) (r : RingId) (index : Nat) (w : WriteTx) :
    (s.refuseConflict r index w).outer = s.outer := by
  simp [State.refuseConflict]

@[simp] theorem outer_refuseForeign (s : State) (r : RingId) (index : Nat) (w : WriteTx) :
    (s.refuseForeign r index w).outer = s.outer := by
  simp [State.refuseForeign]

@[simp] theorem outer_continueCurrent (s : State) (r : RingId) (index offset : Nat) (w : WriteTx) :
    (s.continueCurrent r index offset w).outer = s.outer := by
  unfold State.continueCurrent
  dsimp only
  repeat' split
  all_goals simp

@[simp] theorem outer_writeInHunt (s : State) (r : RingId) (index : Nat) (w : WriteTx) :
    (s.writeInHunt r index w).outer = s.outer := by
  unfold State.writeInHunt; split <;> simp

@[simp] theorem outer_continuation (s : State) (r : RingId) (index offset : Nat) (w : WriteTx) :
    (s.continuation r index offset w).outer = s.outer := by
  unfold State.continuation
  dsimp only
  repeat' split
  all_goals simp

@[simp] theorem outer_candidateStart (s : State) (r : RingId) (index : Nat) (l : Lead) (w : WriteTx) (reclaimed : Bool) :
    (s.candidateStart r index l w reclaimed).outer = s.outer := by
  simp [State.candidateStart]

@[simp] theorem outer_startInHunt (s : State) (r : RingId) (index : Nat) (w : WriteTx) :
    (s.startInHunt r index w).outer = s.outer := by
  unfold State.startInHunt
  split
  · exact outer_overrun _ _ _ _ _ (fun _ _ => by simp)
  · simp

@[simp] theorem outer_confirmingStart (s : State) (r : RingId) (index : Nat) (l : Lead) (w : WriteTx) (reclaimed : Bool) :
    (s.confirmingStart r index l w reclaimed).outer = s.outer := by
  unfold State.confirmingStart
  dsimp only
  repeat' split
  all_goals simp

@[simp] theorem outer_startInConfirm (s : State) (r : RingId) (index : Nat) (w : WriteTx) :
    (s.startInConfirm r index w).outer = s.outer := by
  unfold State.startInConfirm
  split
  · split
    · exact outer_overrun _ _ _ _ _ (fun _ _ => by simp)
    · simp
  · simp

@[simp] theorem outer_loseLockAtThird (s : State) (r : RingId) : (s.loseLockAtThird r).outer = s.outer := by
  unfold State.loseLockAtThird
  dsimp only
  repeat' split
  all_goals simp

@[simp] theorem outer_goodStart (s : State) (r : RingId) (index : Nat) (l : Lead) (w : WriteTx) (reclaimed : Bool) :
    (s.goodStart r index l w reclaimed).outer = s.outer := by
  simp [State.goodStart]

@[simp] theorem outer_breakStart (s : State) (r : RingId) (index : Nat) (l : Lead) (w : WriteTx) (reclaimed : Bool) :
    (s.breakStart r index l w reclaimed).outer = s.outer := by
  simp [State.breakStart]

@[simp] theorem outer_leadErrorStart (s : State) (r : RingId) (index : Nat) (w : WriteTx) (reclaimed : Bool) :
    (s.leadErrorStart r index w reclaimed).outer = s.outer := by
  simp [State.leadErrorStart]

@[simp] theorem outer_slip (s : State) (r : RingId) (index : Nat) (w : WriteTx) :
    (s.slip r index w).outer = s.outer := by
  simp [State.slip]

@[simp] theorem outer_liveStart (s : State) (r : RingId) (index : Nat) (w : WriteTx) :
    (s.liveStart r index w).outer = s.outer := by
  simp [State.liveStart]

@[simp] theorem outer_startInLocked (s : State) (r : RingId) (index : Nat) (w : WriteTx) :
    (s.startInLocked r index w).outer = s.outer := by
  unfold State.startInLocked
  dsimp only
  split
  · split
    · split <;> exact outer_overrun _ _ _ _ _ (fun _ _ => by simp)
    · exact outer_overrun _ _ _ _ _ (fun _ _ => by simp)
  · split <;> simp

@[simp] theorem outer_start (s : State) (r : RingId) (index : Nat) (w : WriteTx) :
    (s.start r index w).outer = s.outer := by
  unfold State.start; split <;> simp

@[simp] theorem outer_producerWrite (s : State) (r : RingId) (index offset : Nat) (w : WriteTx) :
    (s.producerWrite r index offset w).outer = s.outer := by
  unfold State.producerWrite
  repeat' split
  all_goals simp

@[simp] theorem outer_modSlot (s : State) (r : RingId) (k : SlotId) (f : Slot → Slot) :
    (s.modSlot r k f).outer = s.outer := rfl

@[simp] theorem outer_holdOrRefuse (s : State) (r : RingId) (index : Nat) (t : ReadTx) :
    (s.holdOrRefuse r index t).outer = s.outer := by
  unfold State.holdOrRefuse; split <;> simp

@[simp] theorem outer_readFree (s : State) (r : RingId) (index : Nat) (t : ReadTx) :
    (s.readFree r index t).outer = s.outer := by
  unfold State.readFree
  dsimp only
  repeat' split
  all_goals simp

@[simp] theorem outer_readActive (s : State) (r : RingId) (index : Nat) (t : ReadTx) :
    (s.readActive r index t).outer = s.outer := by
  unfold State.readActive; split <;> simp

@[simp] theorem outer_readHeld (s : State) (r : RingId) (index : Nat) (t : ReadTx) :
    (s.readHeld r index t).outer = s.outer := by
  unfold State.readHeld; split <;> simp

@[simp] theorem outer_readWindow (s : State) (r : RingId) (index : Nat) (t : ReadTx) :
    (s.readWindow r index t).outer = s.outer := by
  unfold State.readWindow
  dsimp only
  repeat' split
  all_goals simp

@[simp] theorem outer_routeRead (s : State) (a : Area) (t : ReadTx) : (s.routeRead a t).outer = s.outer := by
  cases a <;> simp [State.routeRead]

@[simp] theorem outer_takeCursor (s : State) (r : RingId) (k : SlotId) (c : Seq) (writer : Initiator) :
    (s.takeCursor r k c writer).outer = s.outer := by
  unfold State.takeCursor
  repeat' split
  all_goals simp

@[simp] theorem outer_writeCursorArea (s : State) (offset : Nat) (w : WriteTx) :
    (s.writeCursorArea offset w).outer = s.outer := by
  unfold State.writeCursorArea
  dsimp only
  repeat' split
  all_goals simp [outer_foldl]

@[simp] theorem outer_startSnapshot (s : State) : (s.startSnapshot).outer = s.outer := by
  unfold State.startSnapshot
  simp only [outer_withCounters, outer_modReport]

@[simp] theorem outer_requestSnapshot (s : State) : (s.requestSnapshot).outer = s.outer := by
  unfold State.requestSnapshot; split <;> simp

@[simp] theorem outer_expirePeriod (s : State) : (s.expirePeriod).outer = s.outer := by
  simp [State.expirePeriod]

@[simp] theorem outer_endWriteOut (s : State) (faults : Nat) : (s.endWriteOut faults).outer = s.outer := by
  unfold State.endWriteOut; split <;> simp

@[simp] theorem outer_completePart (s : State) (part : Nat) (fault : Bool) :
    (s.completePart part fault).outer = s.outer := by
  unfold State.completePart
  repeat' split
  all_goals simp

@[simp] theorem outer_advanceHead (s : State) : (s.advanceHead).outer = s.outer := by
  simp [State.advanceHead]

@[simp] theorem outer_completeReport (s : State) (x : ReportWrite) (fault : Bool) :
    (s.completeReport x fault).outer = s.outer := by
  unfold State.completeReport
  repeat' split
  all_goals simp

@[simp] theorem outer_writeTailWord (s : State) (offset : Nat) (w : WriteTx) :
    (s.writeTailWord offset w).outer = s.outer := by
  unfold State.writeTailWord
  dsimp only
  repeat' split
  all_goals simp

@[simp] theorem outer_endTry (s : State) (j : VerifyJob) : (s.endTry j).outer = s.outer := by
  unfold State.endTry
  repeat' split
  all_goals simp

@[simp] theorem outer_applyVerifyRead (s : State) (j : VerifyJob) (q : Request) (data : List Byte) :
    (s.applyVerifyRead j q data).outer = s.outer := by
  unfold State.applyVerifyRead
  dsimp only
  repeat' split
  all_goals simp

@[simp] theorem outer_applyVerifyFault (s : State) (j : VerifyJob) : (s.applyVerifyFault j).outer = s.outer := by
  simp [State.applyVerifyFault]

@[simp] theorem outer_completeVerify (s : State) (p : Nat) (generation : BitVec 8) (q : Request) (m : MemResult) :
    (s.completeVerify p generation q m).outer = s.outer := by
  unfold State.completeVerify
  repeat' split
  all_goals simp

@[simp] theorem outer_enableRing (s : State) (r : RingId) : (s.enableRing r).outer = s.outer := rfl

@[simp] theorem outer_clearBerths (s : State) (r : RingId) : (s.clearBerths r).outer = s.outer := by
  simp [State.clearBerths, outer_foldl]

@[simp] theorem outer_dropRingWork (s : State) (r : RingId) : (s.dropRingWork r).outer = s.outer := by
  simp [State.dropRingWork]

@[simp] theorem outer_clearRing (s : State) (r : RingId) : (s.clearRing r).outer = s.outer := by
  simp [State.clearRing]

@[simp] theorem outer_detachSlot (s : State) (r : RingId) (k : SlotId) : (s.detachSlot r k).outer = s.outer := by
  simp [State.detachSlot]

@[simp] theorem outer_modLoad (s : State) (f : Load → Load) : (s.modLoad f).outer = s.outer := rfl

@[simp] theorem outer_completeLoaderRead (s : State) (m : MemResult) : (s.completeLoaderRead m).outer = s.outer := by
  simp [State.completeLoaderRead]

@[simp] theorem outer_commitRings (s : State) (l : Load) : (s.commitRings l).outer = s.outer := by
  unfold State.commitRings
  simp only [outer_withPool]
  rw [outer_foldl _ (fun _ _ => by simp), outer_foldl _ (fun _ _ => by simp)]

@[simp] theorem outer_raiseLoadDone (s : State) (l : Load) : (s.raiseLoadDone l).outer = s.outer := by
  simp [State.raiseLoadDone]

@[simp] theorem outer_commitDevice (s : State) (d : DeviceProfile) : (s.commitDevice d).outer = s.outer := rfl

@[simp] theorem outer_commit (s : State) (l : Load) : (s.commit l).outer = s.outer := by
  unfold State.commit
  simp only []
  rw [outer_foldl _ (fun _ _ => by split <;> simp)]
  simp

@[simp] theorem outer_reject (s : State) (l : Load) : (s.reject l).outer = s.outer := by
  unfold State.reject
  repeat' split
  all_goals simp

@[simp] theorem outer_raiseReloadDone (s : State) (kind : LoadKind) : (s.raiseReloadDone kind).outer = s.outer := by
  unfold State.raiseReloadDone; split <;> simp

@[simp] theorem outer_endLoad (s : State) (l : Load) : (s.endLoad l).outer = s.outer := by
  unfold State.endLoad; split <;> simp

@[simp] theorem outer_completeLoaderWrite (s : State) (x : LoaderStep) (fault : Bool) :
    (s.completeLoaderWrite x fault).outer = s.outer := by
  unfold State.completeLoaderWrite
  repeat' split
  all_goals simp

@[simp] theorem outer_reportDisabled (s : State) (a : Area) (w : WriteTx) :
    (s.reportDisabled a w).outer = s.outer := by
  unfold State.reportDisabled; split <;> simp

@[simp] theorem outer_countDisabled (s : State) (a : Area) : (s.countDisabled a).outer = s.outer := by
  unfold State.countDisabled; split <;> simp

@[simp] theorem outer_refuseDisabled (s : State) (a : Area) (w : WriteTx) :
    (s.refuseDisabled a w).outer = s.outer := by
  simp [State.refuseDisabled]

@[simp] theorem outer_writeRange (s : State) (n : SlotId) (w : WriteTx) : (s.writeRange n w).outer = s.outer := by
  unfold State.writeRange; split <;> simp

@[simp] theorem outer_refuseHeld (s : State) (r : RingId) (w : WriteTx) : (s.refuseHeld r w).outer = s.outer := by
  simp [State.refuseHeld]

@[simp] theorem outer_writeWindow (s : State) (r : RingId) (index offset : Nat) (w : WriteTx) :
    (s.writeWindow r index offset w).outer = s.outer := by
  unfold State.writeWindow
  repeat' split
  all_goals simp

@[simp] theorem outer_commandTaken (s : State) (c : CommandWord) : (s.commandTaken c).outer = s.outer := by
  unfold State.commandTaken; split <;> simp

@[simp] theorem outer_commandRefused (s : State) (c : CommandWord) (x : Reason) :
    (s.commandRefused c x).outer = s.outer := by
  simp [State.commandRefused]

theorem outer_ringEnable (s t : State) (r : RingId) (h : s.ringEnable r = .ok t) : t.outer = s.outer := by
  unfold State.ringEnable at h
  repeat' split at h
  all_goals first | (rw [← Except.ok.inj h]; simp) | exact absurd h (by simp)

theorem outer_ringDisable (s t : State) (r : RingId) (h : s.ringDisable r = .ok t) : t.outer = s.outer := by
  unfold State.ringDisable at h
  repeat' split at h
  all_goals first | (rw [← Except.ok.inj h]; simp) | exact absurd h (by simp)

theorem outer_ringReset (s t : State) (r : RingId) (h : s.ringReset r = .ok t) : t.outer = s.outer := by
  unfold State.ringReset at h
  repeat' split at h
  all_goals first | (rw [← Except.ok.inj h]; simp) | exact absurd h (by simp)

theorem outer_reframe (s t : State) (r : RingId) (h : s.reframe r = .ok t) : t.outer = s.outer := by
  unfold State.reframe at h
  repeat' split at h
  all_goals first | (rw [← Except.ok.inj h]; simp) | exact absurd h (by simp)

theorem outer_attach (s t : State) (r : RingId) (k : Byte) (h : s.attach r k = .ok t) : t.outer = s.outer := by
  unfold State.attach at h
  repeat' split at h
  all_goals first | (rw [← Except.ok.inj h]; simp) | exact absurd h (by simp)

theorem outer_detach (s t : State) (r : RingId) (k : Byte) (h : s.detach r k = .ok t) : t.outer = s.outer := by
  unfold State.detach at h
  repeat' split at h
  all_goals first | (rw [← Except.ok.inj h]; simp) | exact absurd h (by simp)

theorem outer_beginReload (s t : State) (c : CommandWord) (h : s.beginReload c = .ok t) : t.outer = s.outer := by
  unfold State.beginReload at h
  split at h
  · cases h
  · injection h with h; subst h; simp

theorem outer_execute (s t : State) (c : CommandWord) (h : s.execute c = .ok t) : t.outer = s.outer := by
  unfold State.execute at h
  dsimp only at h
  split at h
  · exact outer_ringEnable _ _ _ h
  · exact outer_ringDisable _ _ _ h
  · exact outer_ringReset _ _ _ h
  · exact outer_reframe _ _ _ h
  · exact outer_attach _ _ _ _ h
  · exact outer_detach _ _ _ _ h
  · injection h with h; subst h; simp
  · exact outer_beginReload _ _ _ h
  · cases h

@[simp] theorem outer_command (s : State) (c : CommandWord) : (s.command c).outer = s.outer := by
  unfold State.command
  dsimp only
  split
  · simp
  · split
    · simp
    · rename_i h
      rw [outer_commandTaken, outer_execute _ _ _ h, outer_modControl]

@[simp] theorem outer_handOn (s : State) (offset : Nat) (w : WriteTx) : (s.handOn offset w).outer = s.outer := by
  unfold State.handOn
  repeat' split
  all_goals simp

@[simp] theorem outer_writeControl (s : State) (offset : Nat) (w : WriteTx) :
    (s.writeControl offset w).outer = s.outer := by
  unfold State.writeControl
  repeat' split
  all_goals simp

@[simp] theorem outer_routeWrite (s : State) (a : Area) (w : WriteTx) : (s.routeWrite a w).outer = s.outer := by
  unfold State.routeWrite; split <;> simp

@[simp] theorem outer_judgeWrite (s : State) (w : WriteTx) : (s.judgeWrite w).outer = s.outer := by
  unfold State.judgeWrite
  dsimp only
  repeat' split
  all_goals simp

@[simp] theorem outer_decide (s : State) (x : Transaction) : (s.decide x).outer = s.outer := by
  unfold State.decide
  repeat' split
  all_goals simp

@[simp] theorem outer_issue (s : State) (q : Request) : (s.issue q).outer = s.outer := rfl

@[simp] theorem outer_grantPassThrough (s : State) : (s.grantPassThrough).outer = s.outer := by
  unfold State.grantPassThrough; split <;> simp

@[simp] theorem outer_grantVerify (s : State) : (s.grantVerify).outer = s.outer := by
  unfold State.grantVerify; split <;> simp

@[simp] theorem outer_grantReport (s : State) : (s.grantReport).outer = s.outer := by
  unfold State.grantReport; split <;> simp

@[simp] theorem outer_grantLoader (s : State) : (s.grantLoader).outer = s.outer := by
  unfold State.grantLoader
  repeat' split
  all_goals simp

@[simp] theorem outer_grantTo (s : State) (x : Source) : (s.grantTo x).outer = s.outer := by
  unfold State.grantTo; split <;> simp

@[simp] theorem outer_grant (s : State) : (s.grant).outer = s.outer := by
  unfold State.grant; split <;> simp

theorem outer_grantAll (n : Nat) (s : State) : (State.grantAll n s).outer = s.outer := by
  induction n generalizing s with
  | zero => rfl
  | succ n ih =>
    unfold State.grantAll
    split
    · rw [ih, outer_grantTo]
    · rfl

@[simp] theorem outer_grantDue (s : State) : s.grantDue.outer = s.outer := outer_grantAll _ _

@[simp] theorem outer_retire (s : State) : (s.retire).outer = s.outer := rfl

@[simp] theorem outer_freeEntry (s : State) (e : PassEntry) : (s.freeEntry e).outer = s.outer := rfl

@[simp] theorem outer_respondCompleted (s : State) (e : PassEntry) (m : MemResult) :
    (s.respondCompleted e m).outer = s.outer := by
  unfold State.respondCompleted
  repeat' split
  all_goals simp

@[simp] theorem outer_completeEntry (s : State) (e : PassEntry) (m : MemResult) :
    (s.completeEntry e m).outer = s.outer := by
  unfold State.completeEntry; split <;> simp

@[simp] theorem outer_settled (s : State) (r : RingId) (index : Nat) : (s.settled r index).outer = s.outer := by
  unfold State.settled
  repeat' split
  all_goals simp

@[simp] theorem outer_lowerOutstanding (s : State) (p : Nat) :
    (s.lowerOutstanding p).outer = s.outer := outer_of _ _ (by simp) (by simp) (by simp) (by simp)

@[simp] theorem outer_trackedOkay (s : State) (r : RingId) (index : Nat) :
    (s.trackedOkay r index).outer = s.outer := by
  unfold State.trackedOkay
  dsimp only
  repeat' split
  all_goals simp

@[simp] theorem outer_trackedFault (s : State) (r : RingId) (index : Nat) (writer : Initiator) :
    (s.trackedFault r index writer).outer = s.outer := by
  unfold State.trackedFault; split <;> simp

@[simp] theorem outer_completeTracked (s : State) (x : TrackTag) (writer : Initiator) (fault : Bool) :
    (s.completeTracked x writer fault).outer = s.outer := by
  unfold State.completeTracked
  repeat' split
  all_goals simp

@[simp] theorem outer_completePassThrough (s : State) (m : MemResult) :
    (s.completePassThrough m).outer = s.outer := by
  unfold State.completePassThrough
  repeat' split
  all_goals simp

@[simp] theorem outer_completeTrackedWrite (s : State) (fault : Bool) :
    (s.completeTrackedWrite fault).outer = s.outer := by
  unfold State.completeTrackedWrite
  repeat' split
  all_goals simp

@[simp] theorem outer_completeVerifyRead (s : State) (m : MemResult) : (s.completeVerifyRead m).outer = s.outer := by
  unfold State.completeVerifyRead
  repeat' split
  all_goals simp

@[simp] theorem outer_completeReportWrite (s : State) (fault : Bool) :
    (s.completeReportWrite fault).outer = s.outer := by
  unfold State.completeReportWrite
  repeat' split
  all_goals simp

@[simp] theorem outer_completeProfileRead (s : State) (m : MemResult) :
    (s.completeProfileRead m).outer = s.outer := by
  unfold State.completeProfileRead; split <;> simp

@[simp] theorem outer_completeLoadWrite (s : State) (fault : Bool) : (s.completeLoadWrite fault).outer = s.outer := by
  unfold State.completeLoadWrite; split <;> simp

/-! ## The end of an event -/

theorem outer_enterAllReleased (n : Nat) (s : State) : (State.enterAllReleased n s).outer = s.outer := by
  induction n generalizing s with
  | zero => rfl
  | succ n ih =>
    unfold State.enterAllReleased
    split
    · rw [ih, outer_enterReleased]
    · rfl

@[simp] theorem outer_enterReleases (s : State) : s.enterReleases.outer = s.outer := outer_enterAllReleased _ _

theorem outer_settleReleases (s t : State) : (s.settleReleases t).outer = t.outer := by
  unfold State.settleReleases
  split
  · rw [outer_enterReleases, outer_modHolds]
  · rfl

@[simp] theorem outer_arrive (s : State) (x : Transaction) : (s.arrive x).outer = s.outer := by
  rw [State.arrive, outer_settleReleases, outer_decide, outer_grantDue]

theorem outer_expireHoldOf (s : State) (i : Initiator) (t : Tag) : (s.expireHoldOf i t).outer = s.outer := by
  unfold State.expireHoldOf
  split <;> simp

theorem outer_expireFirstHold (s : State) : s.expireFirstHold.outer = s.outer := by
  unfold State.expireFirstHold
  split <;> simp

theorem outer_expireQuietIfDue (s : State) (r : RingId) : (s.expireQuietIfDue r).outer = s.outer := by
  unfold State.expireQuietIfDue
  split <;> simp

theorem outer_expirePeriodIfDue (s : State) : s.expirePeriodIfDue.outer = s.outer := by
  unfold State.expirePeriodIfDue
  split <;> simp

/-! ## The fields one by one -/

theorem pins_of_outer {s t : State} (h : t.outer = s.outer) : t.pins = s.pins := congrArg (·.1) h

theorem now_of_outer {s t : State} (h : t.outer = s.outer) : t.timeBase.now = s.timeBase.now := congrArg (·.2.1) h

theorem link_of_outer {s t : State} (h : t.outer = s.outer) : t.link = s.link := congrArg (·.2.2.1) h

theorem pending_of_outer {s t : State} (h : t.outer = s.outer) : t.pending = s.pending := congrArg (·.2.2.2) h

/-! ## Acceptance from the link (R122) -/

/-- What acceptance leaves: all of the above but the link. -/
def State.kept (s : State) : Pins × Word × List Instr := (s.pins, s.timeBase.now, s.pending)

theorem kept_of_outer {s t : State} (h : t.outer = s.outer) : t.kept = s.kept := by
  simp [State.kept, pins_of_outer h, now_of_outer h, pending_of_outer h]

theorem kept_modLink (s : State) (f : List Transaction → List Transaction) : (s.modLink f).kept = s.kept := rfl

theorem kept_drain (n : Nat) (s : State) : (State.drain n s).kept = s.kept := by
  induction n generalizing s with
  | zero => rfl
  | succ n ih =>
    unfold State.drain
    split
    · rfl
    · split
      · rw [ih, kept_of_outer (outer_arrive _ _), kept_modLink]
      · rfl

theorem kept_drainLink (s : State) : s.drainLink.kept = s.kept := kept_drain _ _

theorem kept_due (s : State) : s.due.kept = s.kept := by
  rw [State.due, kept_of_outer (outer_grantDue _), State.entriesDue, kept_drainLink, kept_of_outer (outer_enterReleases _)]

theorem kept_present (s : State) (x : Transaction) : (s.present x).kept = s.kept := by
  rw [State.present, kept_drainLink, kept_modLink, kept_due]

/-- An event keeps what its effect keeps. -/
theorem kept_event (s : State) (f : State → State) (h : (f s.due).outer = s.due.outer) : (s.event f).kept = s.kept := by
  rw [State.event, kept_drainLink]
  exact (kept_of_outer ((outer_settleReleases _ _).trans h)).trans (kept_due s)

theorem kept_foldl {α : Type} (g : State → α → State) (h : ∀ s a, (g s a).kept = s.kept) (l : List α) (s : State) :
    (l.foldl g s).kept = s.kept := by
  induction l generalizing s with
  | nil => rfl
  | cons a l ih => rw [List.foldl_cons, ih, h]

theorem kept_expireDueHolds (n : Nat) (s : State) : (State.expireDueHolds n s).kept = s.kept := by
  induction n generalizing s with
  | zero => rfl
  | succ n ih =>
    unfold State.expireDueHolds
    split
    · rw [ih, kept_due, kept_event _ _ (outer_expireFirstHold _)]
    · rfl

/-- The expiries that a tick takes leave the pins, the count and the queue of commands. -/
theorem kept_expireDue (s : State) : s.expireDue.kept = s.kept := by
  rw [State.expireDue, kept_event _ _ (outer_expirePeriodIfDue _),
    kept_foldl _ (fun _ r => kept_event _ _ (outer_expireQuietIfDue _ r)), kept_expireDueHolds]

/-- A closed port accepts nothing (R122). -/
theorem drain_closed (n : Nat) (s : State) (h : s.accepts = false) : State.drain n s = s := by
  cases n with
  | zero => rfl
  | succ n =>
    unfold State.drain
    split
    · rfl
    · rw [if_neg (by simp [h])]

/-- An empty link gives nothing to accept. -/
theorem drain_empty (n : Nat) (s : State) (h : s.link = []) : State.drain n s = s := by
  cases n with
  | zero => rfl
  | succ n =>
    unfold State.drain
    split
    · rfl
    · rename_i e; rw [h] at e; exact absurd e (by simp)

/-- An open port takes the transaction at the head of the link, and goes on (R122). -/
theorem drain_open (n : Nat) (s : State) (x : Transaction) (rest : List Transaction) (h : s.link = x :: rest)
    (ho : s.accepts = true) : State.drain (n + 1) s = State.drain n ((s.modLink fun _ => rest).arrive x) := by
  rw [State.drain]
  split
  · rename_i e; rw [h] at e; exact absurd e (by simp)
  · rename_i y ys e
    rw [h] at e
    obtain ⟨rfl, rfl⟩ := List.cons.inj e
    rw [if_pos ho]

/-- Acceptance ends with the link empty or the port closed (R122). -/
theorem drain_settles (n : Nat) (s : State) (h : s.link.length ≤ n) : (State.drain n s).linkSettled := by
  induction n generalizing s with
  | zero => exact Or.inl (List.length_eq_zero_iff.mp (Nat.le_zero.mp h))
  | succ n ih =>
    cases hl : s.link with
    | nil => rw [drain_empty _ _ hl]; exact Or.inl hl
    | cons x rest =>
      cases ha : s.accepts with
      | false => rw [drain_closed _ _ ha]; exact Or.inr ha
      | true =>
        rw [drain_open n s x rest hl ha]
        apply ih
        rw [link_of_outer (outer_arrive _ _)]
        rw [hl] at h
        exact Nat.le_of_succ_le_succ h

/-- Every event ends with the link settled. -/
theorem drainLink_settles (s : State) : s.drainLink.linkSettled := drain_settles _ _ (Nat.le_refl _)

/-- A settled link is left alone. -/
theorem drainLink_settled (s : State) (h : s.linkSettled) : s.drainLink = s := by
  cases h with
  | inl h => exact drain_empty _ _ h
  | inr h => exact drain_closed _ _ h

/-! ## What is due (R100, R122, R129) -/

/-- No released read to enter, or no entry for one: none enters (R100). -/
theorem enterReleases_none (s : State) (h : s.releasedWaits = false ∨ s.passThroughFree = false) : s.enterReleases = s := by
  have e : (s.releasedWaits && s.passThroughFree) = false := by rcases h with h | h <;> simp [h]
  unfold State.enterReleases
  cases s.holds.length with
  | zero => rfl
  | succ n => rw [State.enterAllReleased, e]; rfl

/-- No source to grant: no grant is made (R129). -/
theorem grantAll_none (n : Nat) (s : State) (h : s.grantee = none) : State.grantAll n s = s := by
  cases n with
  | zero => rfl
  | succ n => rw [State.grantAll, h]

theorem grantDue_none (s : State) (h : s.grantee = none) : s.grantDue = s := grantAll_none _ _ h

theorem entriesDue_none (s : State) (h : s.nothingDue) : s.entriesDue = s := by
  rw [State.entriesDue, enterReleases_none s h.2.2, drainLink_settled s h.1]

/-- Where nothing is due, what is due is made already. -/
theorem due_none (s : State) (h : s.nothingDue) : s.due = s := by
  rw [State.due, entriesDue_none s h, grantDue_none s h.2.1]

/-- An event of a state in which nothing is due: its effect, the reads it releases, what the port accepts. -/
theorem event_nothingDue (s : State) (f : State → State) (h : s.nothingDue) :
    s.event f = (s.settleReleases (f s)).drainLink := by
  rw [State.event, due_none s h]

theorem nothingDue_of_portOpen (s : State) (h : s.portOpen) : s.nothingDue := by
  refine ⟨Or.inl h.1, h.2.2, Or.inl ?_⟩
  have a := h.2.1
  simp only [State.accepts, Bool.and_eq_true, Bool.not_eq_true'] at a
  exact a.2

/-- The link's contents do not bear on the grants (R129). -/
theorem grantee_modLink (s : State) (f : List Transaction → List Transaction) : (s.modLink f).grantee = s.grantee := rfl

/-- A transaction presented to an open port is decided at once (R122, R124). -/
theorem present_open (s : State) (x : Transaction) (h : s.portOpen) :
    s.present x = s.settleReleases (s.decide x) := by
  have d := due_none s (nothingDue_of_portOpen s h)
  obtain ⟨hl, ha, hg⟩ := h
  have e : (s.modLink fun l => l ++ [x]).link = [x] := by simp [hl]
  have a : (s.modLink fun l => l ++ [x]).accepts = true := ha
  have same : ((s.modLink fun l => l ++ [x]).modLink fun _ => ([] : List Transaction)) = s := by
    simp only [State.modLink]
    rw [← hl]
  rw [State.present, d, State.drainLink, e]
  show State.drain (0 + 1) _ = _
  rw [drain_open 0 _ x [] e a, same, State.arrive, grantDue_none s hg]
  rfl

/-- A transaction presented to a closed port waits on the link (R122). -/
theorem present_closed (s : State) (x : Transaction) (hd : s.nothingDue) (h : s.accepts = false) :
    s.present x = s.modLink fun l => l ++ [x] := by
  rw [State.present, due_none s hd, State.drainLink]
  exact drain_closed _ _ h

/-! ## The release of held reads -/

/-- An event that releases no read leaves the Hold Queue as it made it (R100). -/
theorem settleReleases_none (s t : State) (h : t.holds = s.holds) : s.settleReleases t = t := by
  have e : t.releasedCount = s.releasedCount := by simp [State.releasedCount, h]
  rw [State.settleReleases, e, if_neg (Nat.lt_irrefl _)]

end Sys2Proof.Machine
end

