-- ==== Sys2Proof/Laws/Arrivals.lean ====
section
/-! SUPPORT. What a transaction's row does when its transaction is taken at once, by what it then is; and that the grants
and the entries that are due, once made, leave none. -/

namespace Sys2Proof.Machine

open Sys2Proof Sys2Proof.Config

/-! ## Transactions taken at once -/

/-- Every upstream row presents its transaction, and an open port decides it (R122, R124). -/
theorem exec_arrival (i : Instr) (x : Transaction) (s : State) (h : i.transaction? = some x) (ho : s.portOpen) :
    exec i s = .next (s.settleReleases (s.decide x)) := by
  rw [← present_open s x ho]
  cases i <;> simp only [Instr.transaction?, Option.some.injEq, reduceCtorEq] at h <;> subst h <;> rfl

/-- A write of good form is judged: WEN first (R134). -/
theorem exec_write (i : Instr) (w : WriteTx) (s : State) (h : i.transaction? = some (.write w)) (ht : s.takesForm w) :
    exec i s = .next (s.settleReleases (s.judgeWrite w)) := by
  rw [exec_arrival i _ s h ht.1, State.decide]
  simp [ht.2.1]

/-- A write taken that WEN does not refuse is routed by its area (R12, R134). -/
theorem exec_write_routed (i : Instr) (w : WriteTx) (s : State) (h : i.transaction? = some (.write w))
    (ht : s.takesWrite w) : exec i s = .next (s.settleReleases (s.routeWrite (s.classify w.address) w)) := by
  rw [exec_write i w s h ht.1, State.judgeWrite]
  rcases ht.2 with hw | hw <;> simp [hw]

/-- A producer's write is a start at offset 0 and a continuation elsewhere (R18). -/
theorem exec_producer_write (i : Instr) (w : WriteTx) (s : State) (r : RingId) (b o : Nat)
    (h : i.transaction? = some (.write w)) (ht : s.takesProducerWrite w r b o) :
    exec i s = .next (s.settleReleases (if o = 0 then s.start r b w else s.continuation r b o w)) := by
  obtain ⟨h1, h2, h3, h4, h5⟩ := ht
  rw [exec_write_routed i w s h h1, h2, State.routeWrite, State.writeWindow, h3]
  show Host.Outcome.next (s.settleReleases (if s.rings[r].profile.isProducer w.initiator then _ else _)) = _
  rw [if_pos h4, State.producerWrite, h5]
  rfl

/-- A read of good form is routed by its area (R12). -/
theorem exec_read (i : Instr) (t : ReadTx) (s : State) (h : i.transaction? = some (.read t)) (ht : s.takesRead t) :
    exec i s = .next (s.settleReleases (s.routeRead (s.classify t.address) t)) := by
  rw [exec_arrival i _ s h ht.1, State.decide]
  simp [ht.2]

/-! ## Grants -/

/-- A source that requests has a request to issue: a grant to it adds one to the list (R128, R129). -/
theorem inFlight_grantTo (s : State) (x : Source) (h : s.requests x = true) :
    (s.grantTo x).port.inFlight.length = s.port.inFlight.length + 1 := by
  cases x with
  | passThrough =>
    simp only [State.requests, Option.isSome_iff_exists] at h
    obtain ⟨e, he⟩ := h
    simp [State.grantTo, State.grantPassThrough, he, State.issue]
  | verify =>
    simp only [State.requests, State.verifyRequests] at h
    cases hv : s.verify.active? with
    | none => rw [hv] at h; exact absurd h (by simp)
    | some j => simp [State.grantTo, State.grantVerify, hv, State.issue]
  | report =>
    simp only [State.requests, State.reportRequests, Bool.and_eq_true, Option.isSome_iff_exists] at h
    obtain ⟨y, hy⟩ := h.2
    simp [State.grantTo, State.grantReport, hy, State.issue]
  | loader =>
    simp only [State.requests, Option.isSome_iff_exists] at h
    obtain ⟨y, hy⟩ := h
    unfold State.loaderNext at hy
    cases hl : s.control.load with
    | none => rw [hl] at hy; exact absurd hy (by simp)
    | some l =>
      rw [hl] at hy
      have hn : l.next = some y := hy
      simp [State.grantTo, State.grantLoader, hl, hn, State.issue]

/-- The grantee requests, and the list has room for its request (R129). -/
theorem grantee_requests (s : State) (x : Source) (h : s.grantee = some x) :
    s.requests x = true ∧ s.port.inFlight.length < inFlightDepth := by
  unfold State.grantee at h
  split at h
  · rename_i room
    exact ⟨List.find?_some h, by simpa [State.inFlightRoom] using room⟩
  · exact absurd h (by simp)

/-- A full list grants nothing (R128). -/
theorem grantee_full (s : State) (h : inFlightDepth ≤ s.port.inFlight.length) : s.grantee = none := by
  unfold State.grantee
  rw [if_neg (by simpa [State.inFlightRoom] using h)]

/-- As many grants as the list has places leave none due (R129). -/
theorem grantee_grantAll (n : Nat) (s : State) (h : inFlightDepth ≤ s.port.inFlight.length + n) :
    (State.grantAll n s).grantee = none := by
  induction n generalizing s with
  | zero => exact grantee_full s h
  | succ n ih =>
    unfold State.grantAll
    split
    · rename_i x hx
      apply ih
      rw [inFlight_grantTo s x (grantee_requests s x hx).1]
      omega
    · assumption

theorem grantee_grantDue (s : State) : s.grantDue.grantee = none := grantee_grantAll _ _ (by omega)

/-! ## Released reads -/

/-- A place with a released read is found where there is one. -/
theorem takeReleased_some (hs : List HoldPlace) (h : (hs.any fun x => !x.waiting) = true) :
    ∃ x, takeReleased hs = some x ∧ x.2.2.length + 1 = hs.length := by
  induction hs with
  | nil => exact absurd h (by simp)
  | cons a rest ih =>
    unfold takeReleased
    cases ha : a.released with
    | some o => exact ⟨_, rfl, rfl⟩
    | none =>
      have hr : (rest.any fun x => !x.waiting) = true := by simpa [HoldPlace.waiting, ha] using h
      obtain ⟨x, hx, hl⟩ := ih hr
      rw [hx]
      exact ⟨_, rfl, by simpa using hl⟩

/-- A released read that enters leaves one place less. -/
theorem holds_enterReleased (s : State) (hw : s.releasedWaits = true) (hf : s.passThroughFree = true) :
    s.enterReleased.holds.length + 1 = s.holds.length := by
  obtain ⟨x, hx, hl⟩ := takeReleased_some s.holds hw
  unfold State.enterReleased
  rw [hx]
  dsimp only
  rw [if_pos hf]
  exact hl

/-- As many entries as there are places leave none due (R100). -/
theorem enterAllReleased_settles (n : Nat) (s : State) (h : s.holds.length ≤ n) :
    (State.enterAllReleased n s).releasedWaits = false ∨ (State.enterAllReleased n s).passThroughFree = false := by
  induction n generalizing s with
  | zero =>
    have e : s.holds = [] := List.length_eq_zero_iff.mp (Nat.le_zero.mp h)
    left
    show s.releasedWaits = false
    simp [State.releasedWaits, e]
  | succ n ih =>
    unfold State.enterAllReleased
    split
    · rename_i hc
      simp only [Bool.and_eq_true] at hc
      apply ih
      have := holds_enterReleased s hc.1 hc.2
      omega
    · rename_i hc
      simp only [Bool.and_eq_true, not_and, Bool.not_eq_true] at hc
      cases hw : s.releasedWaits with
      | false => exact Or.inl rfl
      | true => exact Or.inr (hc hw)

theorem enterReleases_settles (s : State) :
    s.enterReleases.releasedWaits = false ∨ s.enterReleases.passThroughFree = false :=
  enterAllReleased_settles _ _ (Nat.le_refl _)

end Sys2Proof.Machine
end

