-- ==== Sys2Proof/Laws/Holds.lean ====
section
/-! SUPPORT. What the Hold Queue's shared operations do: ending entries (R103) and releasing them (R99) change the places,
the responses and the counters, and nothing else. -/

namespace Sys2Proof.Machine

open Sys2Proof Sys2Proof.Config

/-- Ending one entry answers it, and changes only counters beside. -/
theorem endHold_spec (s : State) (measured : Bool) (h : HoldPlace) :
    ∃ c, s.endHold measured h = { s with responses := s.responses ++ notReadyResponses [h], counters := c } ∧
      (measured = false → c = s.counters) := by
  cases measured
  · exact ⟨s.counters, rfl, fun _ => rfl⟩
  · exact ⟨(s.measureHold h).counters, rfl, fun h => absurd h (by decide)⟩

/-- Ending the entries of a list answers them in its order. -/
theorem foldl_endHold_spec (measured : Bool) (l : List HoldPlace) (s : State) :
    ∃ c, l.foldl (fun s h => s.endHold measured h) s =
        { s with responses := s.responses ++ notReadyResponses l, counters := c } ∧
      (measured = false → c = s.counters) := by
  induction l generalizing s with
  | nil => exact ⟨s.counters, by simp [notReadyResponses], fun _ => rfl⟩
  | cons h l ih =>
    obtain ⟨c, hc, hs⟩ := endHold_spec s measured h
    obtain ⟨c', hc', hs'⟩ := ih (s.endHold measured h)
    refine ⟨c', ?_, fun hm => ?_⟩
    · rw [List.foldl_cons, hc', hc]; simp [notReadyResponses]
    · rw [hs' hm, hc]; exact hs hm

/-- Ending entries takes them out of their places and answers them NOT_READY in arrival order; an end that is not measured
changes no counter (R103). -/
theorem endHolds_spec (s : State) (measured : Bool) (which : HoldPlace → Bool) :
    ∃ c, s.endHolds measured which =
        { s with
          holds := s.holds.filter fun h => !(h.waiting && which h)
          responses := s.responses ++ notReadyResponses (s.holds.filter fun h => h.waiting && which h)
          counters := c } ∧
      (measured = false → c = s.counters) :=
  foldl_endHold_spec measured _ (s.modHolds fun hs => hs.filter fun h => !(h.waiting && which h))

/-- Measuring the hold times of a list of entries changes only counters. -/
theorem foldl_measureHold_spec (l : List HoldPlace) (s : State) :
    ∃ c, l.foldl (fun s h => s.measureHold h) s = { s with counters := c } := by
  induction l generalizing s with
  | nil => exact ⟨s.counters, rfl⟩
  | cons h l ih => exact ih (s.measureHold h)

/-- Releasing the entries on a berth marks them with its outcome in their places (R99). -/
theorem releaseHolds_spec (s : State) (p : Nat) (outcome : ReadOutcome) :
    ∃ c, s.releaseHolds p outcome =
      { s with
        holds := s.holds.map fun h => if h.waiting && h.berth == p then { h with released := some outcome } else h
        counters := c } := by
  obtain ⟨c, hc⟩ := foldl_measureHold_spec (s.holds.filter fun h => h.waiting && h.berth == p) s
  exact ⟨c, by simp only [State.releaseHolds, hc]; rfl⟩

end Sys2Proof.Machine
end

