-- ==== Sys2Proof/Tests/Slice0.lean ====
section
/-! SUPPORT. Tests: ill-formed terms that the well-formedness check refuses, the manual's own examples, and for each
statement with hypotheses a state and operands that meet them all, with some of what the command then leaves. -/

set_option maxRecDepth 20000

namespace Sys2Proof.Tests

open Sys2Proof Sys2Proof.Machine Sys2Proof.Config

/-! ## Well-formedness -/

theorem test_wf_data_length : (Instr.startWrite ⟨1, 0, 0x10000, 2, [0]⟩).wellFormed = false := by decide
theorem test_wf_data_length_ok : (Instr.startWrite ⟨1, 0, 0x10000, 1, [0]⟩).wellFormed = true := by decide
theorem test_wf_beat : (Instr.verifyReadCompletion (.okay [0])).wellFormed = false := by decide
theorem test_wf_cursor_place : (Instr.cursorWrite ⟨3, 0, 0xFFFFF3FF, 1, [0]⟩).wellFormed = false := by decide
theorem test_wf_cursor_place_ok : (Instr.cursorWrite ⟨3, 0, 0xFFFFF400, 1, [0]⟩).wellFormed = true := by decide
theorem test_wf_tail_place : (Instr.tailWordWrite ⟨5, 0, 0xFFFFF320, 1, [0]⟩).wellFormed = false := by decide
theorem test_wf_control_place : (Instr.controlBlockWrite ⟨5, 0, 0xFFFFEFFF, 1, [0]⟩).wellFormed = false := by decide
theorem test_wf_command_place : (Instr.ringEnable ⟨5, 0, 0xFFFFF301, 1, [1]⟩).wellFormed = false := by decide
theorem test_wf_command_opcode : (Instr.ringEnable ⟨5, 0, 0xFFFFF300, 1, [2]⟩).wellFormed = false := by decide
theorem test_wf_command_ok : (Instr.ringEnable ⟨5, 0, 0x3FFFFF300, 1, [1]⟩).wellFormed = true := by decide
theorem test_wf_unknown_opcode : (Instr.unknownCommand ⟨5, 0, 0xFFFFF300, 1, [8]⟩).wellFormed = false := by decide
theorem test_wf_unknown_empty : (Instr.unknownCommand ⟨5, 0, 0xFFFFF300, 0, []⟩).wellFormed = false := by decide

/-! ## The manual's examples -/

/-- The common check value of the CRC that R17 describes. -/
theorem test_crc : crcOf [0x31, 0x32, 0x33, 0x34, 0x35, 0x36, 0x37, 0x38, 0x39] = 0xCBF43926 := by decide
theorem test_passes : passes 0x0105 0x0104 = true ∧ passes 0x0104 0x0104 = false ∧ passes 0x0002 0xFFFE = true ∧
    passes 0xFFFE 0x0002 = false ∧ passes 0x8104 0x0104 = false := by decide
theorem test_groups : groupPosition 4 0x0100 0x0106 = 2 ∧ groupBase 4 0x0100 0x0106 = 0x0104 ∧
    groupPosition 4 0x0100 0x00FE = 2 ∧ groupBase 4 0x0100 0x00FE = 0x00FC ∧ groupPosition 3 0x000A 0x0008 = 1 ∧
    groupBase 3 0x000A 0x0008 = 0x0007 ∧ groupPosition 3 0xFFFE 0x0001 = 0 ∧ groupBase 3 0xFFFE 0x0001 = 0x0001 := by
  decide
theorem test_tail_position : recordEnd 0 = 16 ∧ tailPosition 40 = 48 ∧ tailPosition 41 = 56 := by decide
theorem test_control_base : controlBase 0 = 0xFFFFF000 ∧ controlBase 3 = 0x3FFFFF000 := by decide

/-! ## A small part: ring 0 with four berths of 128 bytes at 0x10000 -/

def profile : RingProfile :=
  { RingProfile.blank with
    windowBase := 0x10000, sizeExponent := 7, berthCount := 4, sync := 0xA55A, primary := 1, alternate := some 2
    consumers := #v[some 3, some 4, none, none], confirmCount := 2, groupSize := 1, holdLimit := 100, quietLimit := 5
    verifyTries := 1 }

def device : DeviceProfile :=
  ⟨100, 5, some 6, 1, true, 0x20000, 64, 10, 0xFFFFFFFF,
    #v[some ⟨0x30000, 1, some 7⟩, none, none, some ⟨0x40000, 1, none⟩]⟩

def ring (op : OpState) (t : Tracking) : RingRecord :=
  ⟨profile, some 0, .valid, op, 1, t, emptyTail,
    #v[⟨.attached, some 3, none, false⟩, ⟨.attached, some 4, some 5, false⟩, Slot.vacant, Slot.vacant]⟩

/-- The part with a profile in force, WEN high and the port open. -/
def part (g : RingRecord) : State :=
  { State.reset with
    pins := ⟨true, true, 0⟩, control := ⟨some device, .idle, 1, false, none⟩, rings := State.reset.rings.set 0 g }

def hunting : Tracking := Tracking.rest .off
def confirming : Tracking := { hunting with align := .confirm, position := some 0, expected := some 7, current := some 3 }
def locked : Tracking := { confirming with align := .locked }

def setBerth (p : Nat) (b : Berth) (s : State) : State := s.modBerth p fun _ => b

/-- A berth of sequence 6 in a state, with 8 of its 56 bytes taken. -/
def inState (b : BerthState) : Berth :=
  { Berth.free 1 with
    state := b, seq := some 6, claimant := some 1, fillCursor := 8, payload := some 40, code := some 0, mark := some false
    outstanding := 1, pendingSet := if b = .ready then 3 else 0 }

/-- What a command leaves. -/
def after (i : Instr) (s : State) : State :=
  match exec i s with
  | .next t => t
  | .fault _ => s
  | .refused _ => s

/-- A write of these bytes by this initiator at this address. -/
def put (i : Initiator) (a : Addr) (data : List Byte) : WriteTx := ⟨i, 9, a, data.length, data⟩

/-- A read of eight bytes. -/
def fetch (i : Initiator) (a : Addr) : ReadTx := ⟨i, 9, a, 8⟩

/-- A good lead of sequence 7 and L = 40. -/
def lead : List Byte := [0x5A, 0xA5, 7, 0, 40, 0, 0, 0]

/-! ## Witnesses: the step, the invariants, reset -/

theorem witness_CommandsLeave : exec .wenFall (part (ring .active locked)) = .next (after .wenFall (part (ring .active locked))) ∧
    exec .releasedReadEntry (part (ring .active locked)) = .next (after .releasedReadEntry (part (ring .active locked))) :=
  ⟨rfl, rfl⟩

theorem witness_steps : State.reset.withinCapacity ∧ State.reset.linkSettled ∧
    step (State.reset.withPending [.resetRelease 3]) = .next (State.release 3 State.reset) :=
  ⟨by decide, Or.inl rfl, rfl⟩

/-- The part with a FILLING berth meets the invariants of the rings' runs. -/
theorem witness_runs : (setBerth 3 (inState .filling) (part (ring .active locked))).runsSound ∧
    (setBerth 3 (inState .filling) (part (ring .active locked))).fillingIsCurrent := by
  have hr : ∀ r : RingId, (setBerth 3 (inState .filling) (part (ring .active locked))).isValid r → r = 0 := by decide
  have h0 : (setBerth 3 (inState .filling) (part (ring .active locked))).rings[(0 : RingId)] = ring .active locked := by
    decide
  refine ⟨⟨fun r h => ?_, fun r q hq h h' => absurd ((hr q h').trans (hr r h).symm) hq, fun l h => ?_⟩, fun r i h hi hf => ?_⟩
  · obtain rfl := hr r h; decide
  · exact absurd (show (none : Option Load) = some l from h) (by simp)
  · rw [hr r h] at hi hf ⊢
    rw [h0] at hi ⊢
    have := (by decide : ∀ j : Fin 4,
      ((setBerth 3 (inState .filling) (part (ring .active locked))).ringBerth 0 j.val).state = .filling → j.val = 3) ⟨i, hi⟩ hf
    simp only at this
    subst this
    decide

/-- The part's ring 0 is sound, as the statements on a loss of lock and on a fault hold ask. -/
theorem witness_RingSound : (part (ring .active locked)).ringSound 0 := by decide

/-- An image in which rings 0 and 1 are sound, each of four berths of 128 bytes. -/
def image : List Byte :=
  let ring (base : Byte) : List Byte :=
    [1, 1, 0x5A, 0xA5, 1, 2, 3, 0xFF, 0xFF, 0xFF, 1, 1, 0, 7, 4, 0, 0, 0, base, 0, 0, 0, 0, 0] ++ List.replicate 40 0
  [0x48, 0x57, 1, 100, 5, 6, 1, 1] ++ [0, 0, 2, 0, 0, 0, 0, 0] ++ [64, 0, 0, 0, 0xFF, 0xFF, 0xFF, 0xFF] ++
    List.replicate 104 0 ++ ring 1 ++ ring 3 ++ List.replicate 448 0

theorem witness_AllottedRuns : (validOffsets 0 image)[(0 : RingId)] = some 0 ∧ (validOffsets 0 image)[(1 : RingId)] = some 4 := by
  decide

/-- Its device profile is good; a signature, a control initiator or a report ring size out of range spoils it. -/
theorem test_device : deviceOk 0 image = true ∧ deviceOk 0 (image.set 1 0) = false ∧ deviceOk 0 (image.set 4 64) = false ∧
    deviceOk 0 (image.set 16 65) = false := by decide

theorem witness_ResetRelease : State.reset.pins.resetN = false ∧ (after (.resetRelease 3) State.reset).pins = ⟨true, false, 3⟩ := by
  decide

theorem witness_Tick : (part (ring .active locked)).pins.resetN = true ∧ (part (ring .active locked)).nothingDue ∧
    ((part (ring .active locked)).holds.all fun h => !(part (ring .active locked)).holdDue h) = true ∧
    (allRings.all fun r => !(part (ring .active locked)).quietDue r) = true ∧ (part (ring .active locked)).periodDue = false ∧
    (after .timeBaseTick (part (ring .active locked))).timeBase = ⟨1, 100, 100⟩ ∧ State.reset.pins.resetN = false := by
  decide

/-- Nine reads of the part's berth 0 are held to the present microsecond. -/
def nineDue : State :=
  ((part (ring .active locked)).modHolds fun _ =>
    List.ofFn fun n : Fin 9 => ⟨⟨3, BitVec.ofNat 8 n.val, 0x10010, 8⟩, 0, 0, 0, 100, none⟩).modTimeBase fun t =>
      { t with now := 100 }

/-- The first deadline of a tick is an event of its own, and leaves the eight others due. -/
theorem witness_TickExpires : nineDue.pins.resetN = true ∧ nineDue.nothingDue ∧
    nineDue.holds.filter nineDue.holdDue = ⟨⟨3, 0, 0x10010, 8⟩, 0, 0, 0, 100, none⟩ :: nineDue.holds.tail ∧
    (after (.holdDeadline 3 0) nineDue).due.holds.filter (after (.holdDeadline 3 0) nineDue).due.holdDue =
      nineDue.holds.tail := by
  decide

/-- The first record's write is granted before the ninth is offered: none is dropped (R129, R169). -/
theorem test_tick_drops_none : (after .timeBaseTick nineDue).report.dropped = 0 ∧
    (after .timeBaseTick nineDue).report.buffer.length = 8 ∧ (after .timeBaseTick nineDue).holds = [] := by
  decide

/-! ## Witnesses: the upstream port -/

theorem witness_ClosedPort : (Instr.plainWrite (put 1 0 [0])).transaction? = some (.write (put 1 0 [0])) ∧
    State.reset.nothingDue ∧ State.reset.accepts = false := by decide

/-- The part with a write of tag 9 of initiator 1 on its way to memory. -/
def outstanding : State :=
  (part (ring .active locked)).modPort fun p =>
    { p with passThrough := [⟨1, 9, 0, 1, .write [0] none, true⟩], inFlight := [⟨.passThrough 1 9, 0, 1, some [0]⟩] }

theorem witness_Malformed :
    ∀ t ∈ [(⟨3, 9, 0, 0⟩ : ReadTx), ⟨3, 9, 0, 65⟩, ⟨3, 9, 0x3C, 5⟩, ⟨1, 9, 0, 64⟩],
      outstanding.portOpen ∧ (Instr.uncheckedRead t).transaction? = some (.read t) ∧
        outstanding.malformed t.initiator t.tag t.address t.length = true := by
  decide

theorem witness_MalformedWrite : outstanding.portOpen ∧
    (Instr.plainWrite (put 1 0 [0])).transaction? = some (.write (put 1 0 [0])) ∧ outstanding.malformed 1 9 0 1 = true := by
  decide

theorem witness_WellFormedExtent : (part (ring .active locked)).malformed 3 9 0x3C 4 = false ∧
    (part (ring .active locked)).malformed 3 9 0 64 = false := by decide

/-- A part with WEN low. -/
def guarded : State := (part (ring .active locked)).modPins fun p => { p with wen := false }

/-- Window, range, both ends of the profile area and of the command word. -/
theorem witness_WenLow :
    ∀ w ∈ [put 1 0x10000 lead, put 7 0x30000 [0], put 5 0xFFFFF000 [0], put 5 0xFFFFF283 [0], put 5 0xFFFFF300 [1],
        put 5 0xFFFFF307 [1]],
      guarded.takesForm w ∧ guarded.pins.wen = false ∧ guarded.wenGuards (guarded.classify w.address) w = true := by
  decide

/-- Both ends of the areas: control block, report ring, window, ranges. -/
theorem witness_Classify :
    ([0xFFFFF000, 0xFFFFFFFF, 0x20000, 0x203FF, 0x10000, 0x101FF, 0x30000, 0x30FFF, 0x40FFF].map guarded.classify) =
      [.control 0, .control 0xFFF, .reportRing, .reportRing, .window 0 0 0, .window 0 3 127, .range 0, .range 0,
        .range 3] ∧
    ([0xFFFFEFFF, 0x100000000, 0x1FFFF, 0x20400, 0xFFFF, 0x10200, 0x31000].map guarded.classify) =
      List.replicate 7 .plain := by
  decide

theorem witness_WenLow_free : ∀ w ∈ [put 5 0xFFFFF284 [0], put 5 0xFFFFF308 [1], put 3 0xFFFFF400 [1], put 1 0x20000 [0]],
    guarded.wenGuards (guarded.classify w.address) w = false := by decide

/-! ## Witnesses: producer traffic -/

/-- A ring's part with other policies of the ring. -/
def under (f : RingProfile → RingProfile) (s : State) : State := s.modRing 0 fun g => { g with profile := f g.profile }

/-- The ring under RECLAIM. -/
def reclaiming (s : State) : State := under (fun p => { p with overrun := .reclaim }) s

/-- A lead of another sequence, and a word that is no lead. -/
def lead8 : List Byte := [0x5A, 0xA5, 8, 0, 40, 0, 0, 0]
def noLead : List Byte := [0, 0, 8, 0, 40, 0, 0, 0]

/-- In HUNT: a good lead at a FREE berth and at a READY one under RECLAIM; no lead at a FREE and at a READY berth. -/
theorem witness_CandidateStart :
    let s := part (ring .active hunting)
    let live := reclaiming (setBerth 1 (inState .ready) s)
    (∀ u ∈ [s, live], ∀ d ∈ [lead, noLead], u.takesProducerWrite (put 1 0x10080 d) 0 1 0 ∧
      u.rings[(0 : RingId)].tracking.align = .hunt ∧ u.poolIndex 0 1 < 2048) ∧
    leadOf 0xA55A (put 1 0x10080 lead) = some ⟨7, 40, false, 0⟩ ∧ leadOf 0xA55A (put 1 0x10080 noLead) = none ∧
      (s.ringBerth 0 1).state = .free ∧ (live.ringBerth 0 1).state = .ready ∧
      live.rings[(0 : RingId)].profile.overrun = .reclaim ∧
      (after (.startWrite (put 1 0x10080 lead)) s).berth 1 = startedBerth (put 1 0x10080 lead) ⟨7, 40, false, 0⟩ 1 := by
  decide

/-- In CONFIRM: the first confirming start of two, the second, and one with another sequence. -/
theorem witness_StartsInConfirm :
    let s := part (ring .active confirming)
    let last := part (ring .active { confirming with confirmProgress := 1, prevLocked := some (1, 7) })
    (∀ u ∈ [s, last], ∀ d ∈ [lead, lead8], u.takesProducerWrite (put 1 0x10000 d) 0 0 0 ∧
      u.rings[(0 : RingId)].tracking.align = .confirm ∧ u.rings[(0 : RingId)].tracking.position = some 0 ∧
      u.rings[(0 : RingId)].tracking.expected = some 7 ∧ (u.ringBerth 0 0).state = .free ∧ u.poolIndex 0 0 < 2048) ∧
    leadOf 0xA55A (put 1 0x10000 lead8) = some ⟨8, 40, false, 0⟩ ∧
      (after (.startWrite (put 1 0x10000 lead)) s).rings[(0 : RingId)].tracking.confirmProgress = 1 ∧
      (after (.startWrite (put 1 0x10000 lead)) last).report.buffer.map (·.kind) = [.lockAcquired, .alignmentChanged] ∧
      (after (.startWrite (put 1 0x10000 lead8)) s).rings[(0 : RingId)].tracking.candidateSeq = some 8 := by
  decide

theorem witness_GoodStart :
    let s := part (ring .active locked)
    let w := put 1 0x10000 lead
    (∀ u ∈ [s, reclaiming (setBerth 0 (inState .ready) s)], u.takesProducerWrite w 0 0 0 ∧
      u.rings[(0 : RingId)].tracking.align = .locked ∧ u.rings[(0 : RingId)].tracking.position = some 0 ∧
      u.rings[(0 : RingId)].tracking.expected = some 7 ∧ u.poolIndex 0 0 < 2048 ∧
      ((u.ringBerth 0 0).state = .free ∨ u.rings[(0 : RingId)].profile.overrun = .reclaim)) ∧
    leadOf s.rings[(0 : RingId)].profile.sync w = some ⟨7, 40, false, 0⟩ ∧
      (40 : BitVec 16).toNat ≤ s.rings[(0 : RingId)].profile.berthSize - 16 ∧
      w.length < recordEnd 40 ∧ (after (.startWrite w) s).berth 0 = startedBerth w ⟨7, 40, false, 0⟩ 1 ∧
      (after (.startWrite w) s).rings[(0 : RingId)].tracking.quietTimer = some 5000 := by
  decide

/-- A sequence break and a lead error, each as the first and as the third error. -/
theorem witness_BreakAndLeadError :
    let s (errors : Nat) := under (fun p => { p with lockRule := .leadOrSequence })
      (part (ring .active { locked with errorCount := errors }))
    (∀ n ∈ [0, 2], ∀ d ∈ [lead8, noLead], (s n).takesProducerWrite (put 1 0x10000 d) 0 0 0 ∧
      (s n).rings[(0 : RingId)].tracking.align = .locked ∧ (s n).rings[(0 : RingId)].tracking.position = some 0 ∧
      (s n).rings[(0 : RingId)].tracking.expected = some 7 ∧ ((s n).ringBerth 0 0).state = .free ∧
      (after (.startWrite (put 1 0x10000 d)) (s n)).rings[(0 : RingId)].tracking.align =
        if n = 0 then .locked else .hunt) ∧
    leadOf 0xA55A (put 1 0x10000 lead8) = some ⟨8, 40, false, 0⟩ ∧ leadOf 0xA55A (put 1 0x10000 noLead) = none ∧
      ((after (.startWrite (put 1 0x10000 noLead)) (s 0)).ringBerth 0 0).damage = some .leadError := by
  decide

/-- A slip and a live-berth write, each as the first and as the third error. -/
theorem witness_StartsNotClaimed :
    let s (errors : Nat) := setBerth 2 (inState .ready) (part (ring .active { locked with errorCount := errors }))
    (∀ n ∈ [0, 2], (s n).takesProducerWrite (put 1 0x10080 lead) 0 1 0 ∧ (s n).takesProducerWrite (put 1 0x10100 lead) 0 2 0 ∧
      (s n).rings[(0 : RingId)].tracking.position ≠ some 1 ∧ (s n).rings[(0 : RingId)].tracking.position ≠ some 2 ∧
      ((s n).ringBerth 0 1).state = .free ∧ ((s n).ringBerth 0 2).state ≠ .free) ∧
    (after (.startWrite (put 1 0x10080 lead)) (s 0)).report.buffer.map (·.kind) = [.slip] ∧
      (after (.startWrite (put 1 0x10100 lead)) (s 2)).report.buffer.map (·.kind) = [.liveWriteRefused, .lockLost] := by
  decide

/-- A start that would be claimed at a READY berth under BLOCK, in HUNT, CONFIRM and LOCKED. -/
theorem witness_Overrun : ∀ t ∈ [hunting, confirming, locked],
    let s := setBerth 0 (inState .ready) (part (ring .active t))
    s.takesProducerWrite (put 1 0x10000 lead) 0 0 0 ∧ (leadOf 0xA55A (put 1 0x10000 lead)).isSome = true ∧
      (t.align = .hunt ∨ t.position = some 0 ∧ t.expected = some 7) ∧ (s.ringBerth 0 0).state ≠ .free ∧
      s.rings[(0 : RingId)].profile.overrun = .block ∧
      (after (.startWrite (put 1 0x10000 lead)) s).report.buffer.map (·.kind) = [.overrunRefused] := by
  decide

/-- The slots that had to release the berth are lapped. -/
theorem witness_Reclaim : (setBerth 0 (inState .ready) (part (ring .active locked))).poolIndex 0 0 < 2048 ∧
    ((setBerth 0 (inState .ready) (part (ring .active locked))).reclaim 0 0 1).rings[(0 : RingId)].roster[(1 : SlotId)].lapped =
      true := by
  decide

/-- A record of L = 0 in one write of 16 bytes, with its tail word: it is sealed at its arrival (R41, R49). -/
def shortRecord (check : List Byte) : WriteTx :=
  put 1 0x10000 ([0x5A, 0xA5, 7, 0, 0, 0, 0, 0] ++ check ++ [0x5A, 0xA5, 0xA5, 0x5A])

theorem test_seal_good : ((after (.startWrite (shortRecord [0x16, 0xfc, 0x52, 0xa9])) (part (ring .active locked))).ringBerth 0 0).state =
    .settling := by decide

theorem test_seal_bad : ((after (.startWrite (shortRecord [0, 0, 0, 0])) (part (ring .active locked))).ringBerth 0 0).damage =
    some .checkError := by decide

/-! ## Witnesses: the group unit -/

/-- A LOCKED ring of groups of two, its group unit in a state. -/
def grouped (g : GroupState) (candidate : Option Seq) (errors count : Nat) : State :=
  under (fun p => { p with groupSize := 2, keepSearching := true, publishMode := .group })
    (part (ring .active
      { locked with group := g, groupCandidate := candidate, groupStart := some 4, groupErrors := errors, searchCount := count }))

/-- A start of sequence 7 and a marked one of sequence 8. -/
def plainStart : Examined := ⟨0, 7, false, 1⟩
def markedStart : Examined := ⟨0, 8, true, 1⟩

/-- The mark of 8 locks on the candidate 6; no start without a mark does. -/
theorem witness_Locks : (markedStart.mark = true ∧ ∃ c : Seq, some 6 = some c ∧ (markedStart.seq - c).toNat = 2) ∧
    ¬(plainStart.mark = true ∧ ∃ c : Seq, some 6 = some c ∧ (plainStart.seq - c).toNat = 2) :=
  ⟨⟨rfl, 6, rfl, by decide⟩, fun h => absurd h.1 (by decide)⟩

theorem witness_Examine : (∀ g ∈ [GroupState.off, .search, .locked, .ungrouped], ∀ n ∈ [0, 1, 7],
      (grouped g (some 6) n n).rings[(0 : RingId)].tracking.align = .locked ∧
        (grouped g (some 6) n n).rings[(0 : RingId)].tracking.group = g ∧
        (grouped g (some 6) n n).rings[(0 : RingId)].tracking.searchCount = n ∧
        (grouped g (some 6) n n).rings[(0 : RingId)].profile.groupSize = 2) ∧
    ((grouped .search (some 6) 0 0).examine 0 markedStart).rings[(0 : RingId)].tracking.group = .locked ∧
    ((grouped .search (some 6) 0 0).examine 0 plainStart).rings[(0 : RingId)].tracking.searchCount = 1 ∧
    ((grouped .search (some 6) 0 7).examine 0 plainStart).rings[(0 : RingId)].tracking.group = .ungrouped ∧
    ((grouped .ungrouped (some 6) 0 0).examine 0 markedStart).rings[(0 : RingId)].tracking.group = .locked := by
  decide

/-- Group positions from 4: 7 lies at 1 and 6 at 0; an unmarked 6 is out of place. -/
theorem witness_ExamineLocked :
    ¬¬(groupPosition 2 4 7 = 0 ↔ plainStart.mark = true) ∧ ¬(groupPosition 2 4 6 = 0 ↔ false = true) ∧
    ((grouped .locked none 0 0).examine 0 ⟨0, 6, false, 1⟩).rings[(0 : RingId)].tracking.groupErrors = 1 ∧
    ((setBerth 1 (inState .staged) (grouped .locked none 1 0)).examine 0 ⟨0, 6, false, 1⟩).rings[(0 : RingId)].tracking.group =
      .search ∧
    (((setBerth 1 (inState .staged) (grouped .locked none 1 0)).examine 0 ⟨0, 6, false, 1⟩).ringBerth 0 1).state = .ready := by
  decide

/-- The group of 4 and 5 is complete once 5 is claimed, and held back while a member settles. -/
theorem witness_CompleteGroups :
    let s := setBerth 1 { inState .staged with seq := some 4 } (grouped .locked none 0 0)
    let held := setBerth 2 { inState .settling with seq := some 5 } s
    (∀ u ∈ [s, held], u.rings[(0 : RingId)].tracking.group = .locked ∧
      u.rings[(0 : RingId)].poolBase + u.rings[(0 : RingId)].profile.berthCount ≤ 2048) ∧
    ((s.groupTest 0).ringBerth 0 1).state = .ready ∧ ((held.groupTest 0).ringBerth 0 1).state = .staged := by
  decide

/-! ## Witnesses: filling, sealing, damage, publication -/

/-- The part while berth 3 is being filled. -/
def filling : State := setBerth 3 (inState .filling) (part (ring .active locked))

theorem witness_Continuation :
    let w := put 1 0x10188 [1, 2]
    filling.takesProducerWrite w 0 3 (filling.ringBerth 0 3).fillCursor ∧ (filling.ringBerth 0 3).fillCursor ≠ 0 ∧
      filling.rings[(0 : RingId)].tracking.align ≠ .hunt ∧ filling.rings[(0 : RingId)].tracking.current = some 3 ∧
      (filling.ringBerth 0 3).state = .filling ∧ (filling.ringBerth 0 3).payload = some 40 ∧ filling.poolIndex 0 3 < 2048 ∧
      (filling.ringBerth 0 3).fillCursor + w.length < recordEnd 40 ∧
      ((after (.continuationWrite w) filling).ringBerth 0 3).fillCursor = 10 := by
  decide

/-- The other continuations: a READY, a DAMAGED and a FREE current berth; each of them with another berth current; each in HUNT. -/
theorem witness_OtherContinuations :
    let w := put 1 0x10188 [1, 2]
    let s (t : Tracking) (b : BerthState) := setBerth 3 (inState b) (part (ring .active t))
    (∀ t ∈ [locked, { locked with current := some 0 }, hunting], ∀ b ∈ [BerthState.ready, .damaged, .free],
      (s t b).takesProducerWrite w 0 3 8 ∧ ((s t b).ringBerth 0 3).state = b ∧
        (after (.continuationWrite w) (s t b)).port.inFlight = [] ∧
        ((after (.continuationWrite w) (s t b)).port.passThrough = [writeEntry w none] ↔
          b = .free ∨ b = .damaged ∧ t.current ≠ some 0)) ∧
    (after (.continuationWrite w) (s locked .ready)).report.buffer.map (·.kind) = [.liveWriteRefused] := by
  decide

/-- A FILLING berth of a record of L = 0 that ends with the tail word here captured. -/
def sealing (check : Word) (tail : TailCapture) : State :=
  (setBerth 3 { inState .filling with payload := some 0, fillCursor := 16, check := crcComplete check }
    (part (ring .active locked))).modRing 0 fun g => { g with tailCapture := tail }

def goodTail : TailCapture := #v[some 1, some 0, some 0, some 0, some 0x5A, some 0xA5, some 0xA5, some 0x5A]

/-- A wrong tail pattern; a check code that differs; a good seal. The two outcomes of judgeClaim before them. -/
theorem witness_Seal :
    (∀ s ∈ [sealing 1 emptyTail, sealing 2 goodTail, sealing 1 goodTail], s.poolIndex 0 3 < 2048 ∧
      (s.ringBerth 0 3).state = .filling ∧ (s.ringBerth 0 3).damage = none ∧ (s.ringBerth 0 3).payload = some 0) ∧
    tailPatternOk 0xA55A emptyTail = false ∧ tailPatternOk 0xA55A goodTail = true ∧ tailCheckCode goodTail = 1 ∧
      crcComplete ((sealing 2 goodTail).ringBerth 0 3).check = 2 ∧ crcComplete ((sealing 1 goodTail).ringBerth 0 3).check = 1 ∧
      (((sealing 1 goodTail).seal 0 3).ringBerth 0 3).state = .settling := by
  decide

/-- At the excess threshold a check error loses the lock. -/
theorem test_seal_excess :
    ((under (fun p => { p with reframeOnExcess := true, excessThreshold := 1 }) (sealing 2 goodTail)).seal 0 3).rings[
      (0 : RingId)].tracking.align = .hunt := by
  decide

theorem witness_Damage :
    let w := put 1 0x10189 [1, 2]
    filling.takesProducerWrite w 0 3 9 ∧ 9 ≠ (filling.ringBerth 0 3).fillCursor ∧
      filling.rings[(0 : RingId)].tracking.align ≠ .hunt ∧ filling.rings[(0 : RingId)].tracking.current = some 3 ∧
      (filling.ringBerth 0 3).state = .filling ∧ filling.poolIndex 0 3 < 2048 ∧
      ((after (.continuationWrite w) filling).ringBerth 0 3).damage = some .fillOrder ∧
      ((setBerth 3 (inState .damaged) filling).ringBerth 0 3).state = .damaged := by
  decide

/-- A settled berth without verify, with verify and room, with verify and a full queue; one staged for its group. -/
theorem witness_Settled :
    let s := setBerth 3 (inState .settling) (part (ring .active locked))
    let v := under (fun p => { p with verify := true }) s
    let full := v.modVerify fun e => { e with queue := List.replicate 8 ⟨1, 9, 0, 1, .reading⟩ }
    (∀ u ∈ [s, v, full], u.poolIndex 0 3 < 2048) ∧ s.rings[(0 : RingId)].profile.verify = false ∧
      v.rings[(0 : RingId)].profile.verify = true ∧ v.verify.queue.head? = none ∧ 8 ≤ full.verify.queue.length ∧
      ((s.settled 0 3).ringBerth 0 3).pendingSet = 3 ∧ ((v.settled 0 3).ringBerth 0 3).state = .checking ∧
      (full.settled 0 3).report.buffer.map (·.kind) = [.verifySkipped] ∧
      (grouped .locked none 0 0).rings[(0 : RingId)].opState = .active ∧
      (grouped .locked none 0 0).rings[(0 : RingId)].profile.publishMode = .group := by
  decide

theorem witness_ForeignWrite :
    let s := part (ring .active locked)
    let w := put 9 0x10080 [0]
    s.takesWrite w ∧ s.classify w.address = .window 0 1 0 ∧ s.rings[(0 : RingId)].opState = .active ∧
      s.rings[(0 : RingId)].profile.isProducer w.initiator = false ∧ s.rings[(0 : RingId)].profile.strict = false ∧
      (after (.foreignWrite w) s).counter 0 .writesRefused = 1 := by
  decide

/-- Strict ring 0 while berth 3 is being filled. -/
def strict : State := filling.modRing 0 fun g => { g with profile := { g.profile with strict := true } }

theorem witness_ForeignWriteStrict :
    let w := put 3 0x10080 [0]
    strict.takesWrite w ∧ strict.classify w.address = .window 0 1 0 ∧ strict.rings[(0 : RingId)].opState = .active ∧
      strict.rings[(0 : RingId)].profile.isProducer w.initiator = false ∧ strict.rings[(0 : RingId)].profile.strict = true ∧
      (after (.foreignWrite w) strict).rings[(0 : RingId)].opState = .faultHeld := by
  decide

/-- Producer 2 writes into the berth that producer 1 fills, at its first byte and at its last. -/
theorem witness_ClaimConflict : ∀ s ∈ [filling, strict], ∀ x ∈ [(0x10180, 0), (0x101FF, 127)],
    let w := put 2 x.1 [0]
    s.takesWrite w ∧ s.classify w.address = .window 0 3 x.2 ∧ s.rings[(0 : RingId)].opState = .active ∧
      s.rings[(0 : RingId)].profile.isProducer w.initiator = true ∧ (s.ringBerth 0 3).state = .filling ∧
      (s.ringBerth 0 3).claimant ≠ some w.initiator ∧
      (after (.continuationWrite w) s).report.buffer.map (·.kind) =
        if s.rings[(0 : RingId)].profile.strict then [.claimConflict, .berthDamaged, .faultHeld] else [.claimConflict] := by
  decide

/-- Berth 3 is being filled, 1 is STAGED, 2 settles, 0 is FREE; a read waits on each. -/
def crowded : State :=
  (setBerth 1 (inState .staged) (setBerth 2 (inState .settling) strict)).modHolds fun _ =>
    List.ofFn fun n : Fin 4 => ⟨⟨3, BitVec.ofNat 8 n.val, 0, 8⟩, 0, n.val, 0, 100, none⟩

/-- A loss of lock and a fault hold release the reads on 3 and 1, and end those on 0 and 2, in arrival order. -/
theorem test_closed_out : crowded.ringSound 0 ∧ (crowded.endedHolds 0).map (·.berth) = [0, 2] ∧
    ∀ t ∈ [crowded.loseLock 0 .command, crowded.faultHold 0 .foreignWrite 1 3],
      t.holds.map (fun h => (h.berth, h.released)) = [(1, some .okay), (3, some .okay)] ∧
        t.responses.map (fun x => (x.tag, x.code)) = [(0, .notReady), (2, .notReady)] := by
  decide

theorem witness_HeldRing :
    let s := part (ring .faultHeld locked)
    let w := put 1 0x101FF [0]
    (Instr.continuationWrite w).transaction? = some (.write w) ∧ s.takesWrite w ∧ s.classify w.address = .window 0 3 127 ∧
      s.rings[(0 : RingId)].opState = .faultHeld := by
  decide

/-! ## Witnesses: reads -/

/-- What a read of berth 0 by consumer 3 leaves: responses, passed reads and held reads. -/
def readLeaves (s : State) : List ResponseCode × List PassBody × Nat :=
  let t := after (.consumerRead (fetch 3 0x10010)) s
  (t.responses.map (·.code), t.port.passThrough.map (·.body), t.holds.length)

/-- The ring with another berth 0, hold limit and slot 0. -/
def reading (op : OpState) (t : Tracking) (b : BerthState) (limit : BitVec 16) (lapped : Bool) : State :=
  (setBerth 0 (if b = .free then Berth.free 1 else inState b) (part (ring op t))).modRing 0 fun g =>
    { g with profile := { g.profile with holdLimit := limit }, roster := g.roster.set 0 ⟨.attached, some 3, none, lapped⟩ }

theorem witness_JudgedRead : ∀ op ∈ [OpState.active, .faultHeld], ∀ b ∈ [BerthState.ready, .damaged, .filling, .free],
    ∀ lapped : Bool,
      (reading op locked b 100 lapped).takesJudgedRead (fetch 3 0x10010) 0 0 0 ∧
        (reading op locked b 100 lapped).rings[(0 : RingId)].opState = op := by
  decide

theorem test_read_lapped : readLeaves (reading .active locked .ready 100 true) = ([.lapped], [], 0) := by decide
theorem test_read_ready : readLeaves (reading .active locked .ready 100 false) = ([], [.read .okay], 0) := by decide
theorem test_read_held : readLeaves (reading .active locked .filling 100 false) = ([], [], 1) := by decide
theorem test_read_unheld : readLeaves (reading .active locked .filling 0 false) = ([.notReady], [], 0) := by decide
theorem test_read_position : readLeaves (reading .active locked .free 100 false) = ([], [], 1) := by decide
theorem test_read_elsewhere :
    readLeaves (reading .active { locked with position := some 2 } .free 100 false) = ([.notReady], [], 0) := by decide
theorem test_read_hunt : readLeaves (reading .active hunting .free 100 false) = ([], [.read .okay], 0) := by decide

theorem witness_Unchecked :
    ∀ t ∈ [fetch 9 0, fetch 9 0xFFFFF000, fetch 9 0x20000, fetch 9 0x30000, fetch 1 0x10000, fetch 9 0x10000],
      (part (ring .active locked)).takesRead t ∧
        (part (ring .active locked)).unjudged t ((part (ring .active locked)).classify t.address) = true := by
  decide

theorem witness_UncheckedDisabled : (part (ring .disabled hunting)).takesRead (fetch 3 0x10000) ∧
    (part (ring .disabled hunting)).unjudged (fetch 3 0x10000) ((part (ring .disabled hunting)).classify 0x10000) = true := by
  decide

/-! ## Witnesses: other writes -/

theorem witness_PlainWrite :
    let s := part (ring .active locked)
    (∀ w ∈ [put 9 0 [0], put 9 0x20000 [0], put 9 0x203FF [0], put 9 0x20400 [0], put 7 0x30FFF [0], put 9 0x40000 [0]],
      s.takesWrite w) ∧
    s.classify 0 = .plain ∧ s.classify 0x20000 = .reportRing ∧ s.classify 0x203FF = .reportRing ∧
      s.classify 0x20400 = .plain ∧ s.classify 0x30FFF = .range 0 ∧ s.classify 0x40000 = .range 3 ∧
      s.rangeAllowed 0 = some 7 ∧ s.rangeAllowed 3 ≠ some 9 := by
  decide

/-- A write into the window of a DISABLED ring, and one into plain memory while WEN is low. -/
theorem witness_PassingWrites :
    let s := part (ring .disabled hunting)
    s.takesWrite (put 1 0x10000 [0]) ∧ s.classify 0x10000 = .window 0 0 0 ∧ s.rings[(0 : RingId)].opState = .disabled ∧
      guarded.takesWrite (put 1 0x20000 [0]) ∧ guarded.pins.wen = false ∧
      (after (.startWrite (put 1 0x10000 [0])) s).port.passThrough.length = 0 + 1 ∧
      (after (.plainWrite (put 1 0x20000 [0])) guarded).port.passThrough.length = 0 + 1 := by
  decide

/-- The part with READY berths of sequences 6 in berth 0 and consumer 4's cursor at 5. -/
def published : State := setBerth 0 (inState .ready) (part (ring .active locked))

theorem witness_CursorWrite :
    let w := put 4 0xFFFFF408 [7, 0]
    published.takesForm w ∧ published.classify w.address = .control 0x408 ∧ touchedCursorWords 0x408 w = [(0, 1)] ∧
      published.judgeCursorWord 0x408 w 0 1 = .cursorWrite ∧ published.wenGuards (.control 0x408) w = false ∧
      published.rings[(0 : RingId)].poolBase + published.rings[(0 : RingId)].profile.berthCount ≤ 2048 ∧
      (published.ringBerth 0 0).releasedBy (cursorValue 0x408 w 0 1) = true ∧
      (published.ringBerth 0 1).releasedBy (cursorValue 0x408 w 0 1) = false ∧
      ((after (.cursorWrite w) published).ringBerth 0 0).pendingSet = 1 := by
  decide

/-- A regress: the old cursor 5 is ahead of 4. -/
theorem test_cursor_regress : ((after (.cursorWrite (put 4 0xFFFFF408 [4, 0])) published).report.buffer.map (·.kind)) =
    [.cursorRegress] := by decide

/-- The second of two touched words is another's: both are refused. -/
theorem witness_CursorRefused :
    let w := put 3 0xFFFFF400 [7, 0, 0, 0, 0, 0, 0, 0, 7, 0]
    published.takesForm w ∧ published.classify w.address = .control 0x400 ∧ touchesCursors 0x400 w.length = true ∧
      touchedCursorWords 0x400 w = [(0, 0)] ++ (0, 1) :: [] ∧ published.judgeCursorWord 0x400 w 0 0 ≠ .refused ∧
      published.judgeCursorWord 0x400 w 0 1 = .refused ∧
      (after (.cursorWrite w) published).rings[(0 : RingId)].roster[(0 : SlotId)].cursor = none := by
  decide

/-- The judgment of slot 1's cursor word 0x408 for a write by an initiator of so many bytes at an offset. -/
def cursorJudged (slot : SlotState) (i : Initiator) (offset length : Nat) : CursorJudgment :=
  (published.modSlot 0 1 fun k => { k with state := slot }).judgeCursorWord offset ⟨i, 9, 0, length, List.replicate length 0⟩ 0 1

theorem test_cursor_judgments :
    cursorJudged .vacant 9 0x408 2 = .ordinary ∧ cursorJudged .detached 4 0x408 1 = .ordinary ∧
      cursorJudged .detached 9 0x408 2 = .refused ∧ cursorJudged .attached 9 0x40A 1 = .refused ∧
      cursorJudged .attached 4 0x408 2 = .cursorWrite ∧ cursorJudged .attached 4 0x400 16 = .cursorWrite ∧
      cursorJudged .attached 4 0x408 1 = .refused ∧ cursorJudged .attached 4 0x409 7 = .refused ∧
      cursorJudged .attached 4 0x40A 6 = .ordinary ∧
      (part { ring .active locked with validity := .invalid }).judgeCursorWord 0x408 (put 9 0 [0]) 0 1 = .ordinary := by
  decide

/-- The cursor of the last slot that must release the berth frees it. -/
theorem test_cursor_frees : (((published.takeCursor 0 0 7 3).takeCursor 0 1 7 4).ringBerth 0 0) = Berth.free 1 ∧
    ((published.takeCursor 0 0 7 3).takeCursor 0 1 7 4).rings[(0 : RingId)].occupancy = 0 := by
  decide

/-- The part with head 3 and tail 1 in a report ring of 64. -/
def reported : State := (part (ring .active locked)).modReport fun e => { e with head := 3, tail := 1 }

/-- No byte of the value, one of its two bytes, the first and last valid value, and the values beside them. -/
theorem witness_TailWord :
    ∀ x ∈ [(put 5 0xFFFFF31A [0], 0x31A), (put 5 0xFFFFF318 [2], 0x318), (put 5 0xFFFFF319 [0], 0x319),
        (put 6 0xFFFFF318 [1, 0], 0x318), (put 6 0xFFFFF318 [3, 0], 0x318), (put 6 0xFFFFF318 [4, 0], 0x318),
        (put 6 0xFFFFF318 [64, 0], 0x318)],
      reported.takesForm x.1 ∧ reported.classify x.1.address = .control x.2 ∧ touches x.2 x.1.length 0x318 0x320 = true ∧
        touchesCursors x.2 x.1.length = false ∧ reported.accessRefused x.2 x.1 = false ∧
        covers x.2 x.1.length 0x300 = false ∧ reported.wenGuards (.control x.2) x.1 = false := by
  decide

theorem test_tail_values : ([[1, 0], [3, 0], [4, 0], [64, 0]].map fun v =>
    ((after (.tailWordWrite (put 5 0xFFFFF318 v)) reported).report.tail,
      (after (.tailWordWrite (put 5 0xFFFFF318 v)) reported).report.buffer.length)) = [(1, 0), (3, 0), (1, 1), (1, 1)] := by
  decide

/-- A write that the part alone may make, a guarded word by a stranger, and ordinary memory of the block. -/
theorem witness_ControlBlock :
    let s := part (ring .active locked)
    (∀ x ∈ [(put 5 0xFFFFF308 [0], 0x308), (put 5 0xFFFFFA27 [0], 0xA27), (put 9 0xFFFFF283 [0], 0x283),
        (put 9 0xFFFFF284 [0], 0x284), (put 5 0xFFFFF000 [0], 0), (put 9 0xFFFFFA28 [0], 0xA28)],
      s.takesControlWrite x.1 x.2 ∧ touchesCursors x.2 x.1.length = false) ∧
    s.accessRefused 0x308 (put 5 0xFFFFF308 [0]) = true ∧ s.accessRefused 0xA27 (put 5 0xFFFFFA27 [0]) = true ∧
      s.accessRefused 0x283 (put 9 0xFFFFF283 [0]) = true ∧ s.accessRefused 0x284 (put 9 0xFFFFF284 [0]) = false ∧
      s.accessRefused 0 (put 5 0xFFFFF000 [0]) = false ∧ s.accessRefused 0xA28 (put 9 0xFFFFFA28 [0]) = false := by
  decide

/-! ## Witnesses: commands -/

/-- A command of control initiator 5. -/
def give (opcode ringNumber slot : Byte) : WriteTx := put 5 0xFFFFF300 [opcode, ringNumber, slot]

theorem witness_RingEnable : (part (ring .disabled hunting)).takesRingCommand (give 1 0 0) 1 0 ∧
    (part (ring .disabled hunting)).rings[(0 : RingId)].opState = .disabled ∧
    (after (.ringEnable (give 1 0 0)) (part (ring .disabled hunting))).rings[(0 : RingId)].opState = .active := by
  decide

theorem witness_RingDisable : filling.takesRingCommand (give 2 0 0) 2 0 ∧
    filling.rings[(0 : RingId)].opState = .active ∧
    filling.rings[(0 : RingId)].poolBase + filling.rings[(0 : RingId)].profile.berthCount ≤ 2048 ∧
    (after (.ringDisable (give 2 0 0)) filling).ringBerth 0 3 = Berth.free 2 := by
  decide

theorem witness_RingReset : ∀ op ∈ [OpState.active, .faultHeld], (part (ring op locked)).takesRingCommand (give 3 0 0) 3 0 ∧
    (part (ring op locked)).rings[(0 : RingId)].opState ≠ .disabled ∧
    (part (ring op locked)).rings[(0 : RingId)].poolBase + (part (ring op locked)).rings[(0 : RingId)].profile.berthCount ≤
      2048 ∧
    (after (.ringReset (give 3 0 0)) (part (ring op locked))).rings[(0 : RingId)].opState = .active := by
  decide

theorem witness_Reframe : ∀ t ∈ [confirming, locked], (part (ring .active t)).takesRingCommand (give 4 0 0) 4 0 ∧
    (part (ring .active t)).rings[(0 : RingId)].opState = .active ∧
    (part (ring .active t)).rings[(0 : RingId)].tracking.align ≠ .hunt ∧
    (after (.reframe (give 4 0 0)) (part (ring .active t))).rings[(0 : RingId)].tracking.align = .hunt := by
  decide

/-- The part with slot 0 of ring 0 DETACHED. -/
def detached : State := (part (ring .active locked)).modSlot 0 0 fun k => { k with state := .detached }

theorem witness_Attach : detached.takesRingCommand (give 5 0 0) 5 0 ∧ slotOfByte? (commandOf 0x300 (give 5 0 0)).slot = some 0 ∧
    detached.rings[(0 : RingId)].opState = .active ∧
    detached.rings[(0 : RingId)].roster[(0 : SlotId)].state = .detached ∧
    (after (.attach (give 5 0 0)) detached).rings[(0 : RingId)].roster[(0 : SlotId)].state = .attached := by
  decide

theorem witness_Detach : ∀ op ∈ [OpState.active, .faultHeld],
    let s := setBerth 0 (inState .ready) (part (ring op locked))
    s.takesRingCommand (give 6 0 1) 6 0 ∧ slotOfByte? (commandOf 0x300 (give 6 0 1)).slot = some 1 ∧
      s.rings[(0 : RingId)].opState ≠ .disabled ∧ s.rings[(0 : RingId)].roster[(1 : SlotId)].state = .attached ∧
      s.rings[(0 : RingId)].poolBase + s.rings[(0 : RingId)].profile.berthCount ≤ 2048 ∧
      ((after (.detach (give 6 0 1)) s).ringBerth 0 0).pendingSet = 1 := by
  decide

/-- The slot was the last that had to release the berth. -/
theorem test_detach_frees :
    let s := setBerth 0 { inState .ready with pendingSet := 2 } (part (ring .active locked))
    (after (.detach (give 6 0 1)) s).ringBerth 0 0 = Berth.free 1 ∧
      (after (.detach (give 6 0 1)) s).rings[(0 : RingId)].occupancy = 0 := by
  decide

/-- The part while a snapshot is written out, its second part in flight. -/
def writingOut : State :=
  ((part (ring .active locked)).modReport fun e => { e with writeOut := .writing 3 0 }).modPort fun p =>
    { p with inFlight := [⟨.report (.snapshotPart 2), 0xFFFFF840, 64, some []⟩] }

theorem witness_Snapshot : (part (ring .active locked)).takesCommand (give 7 0 0) 7 ∧
    (part (ring .active locked)).control.device.isSome = true ∧ (part (ring .active locked)).report.writeOut = .idle ∧
    writingOut.takesCommand (give 7 0 0) 7 ∧ writingOut.control.device.isSome = true ∧ writingOut.report.writeOut ≠ .idle ∧
    (after (.snapshot (give 7 0 0)) writingOut).report.snapshotPending = true := by
  decide

theorem witness_Reload : (part (ring .disabled hunting)).takesCommand (give 8 0 0) 8 ∧
    (∀ r : RingId, (part (ring .disabled hunting)).rings[r].opState = .disabled) ∧
    (part (ring .active locked)).takesCommand (give 8 0 0) 8 ∧
    (part (ring .active locked)).rings[(0 : RingId)].opState ≠ .disabled ∧
    (after (.reload (give 8 0 0)) (part (ring .disabled hunting))).control.unit = .busy := by
  decide

theorem witness_Unknown : ∀ op ∈ [(0 : Byte), 9, 0xFF], (part (ring .active locked)).takesCommand (give op 0 0) op ∧
    (op = 0 ∨ 8 < op.toNat) ∧
    (after (.unknownCommand (give op 0 0)) (part (ring .active locked))).report.buffer.map (·.detail) = [2] := by
  decide

/-- The reason with which a command is refused, 0 when it is not. -/
def refusal (s : State) (opcode ringNumber slot : Byte) : Byte :=
  match (after (.ringEnable (give opcode ringNumber slot)) s).report.buffer with
  | [⟨.commandRefused, _, _, _, _, detail, _, _⟩] => detail
  | _ => 0

theorem witness_Refusals :
    (∀ s ∈ [part (ring .active hunting), (part (ring .active locked)).modControl fun u => { u with unit := .busy }],
      s.takesControlWrite (give 1 0 0) 0x300 ∧ (give 1 0 0).length ≤ 8 ∧ s.mayControl 5 = true) ∧
    refusal ((part (ring .active locked)).modControl fun u => { u with unit := .busy }) 0 9 0 = 1 ∧
      refusal (part (ring .active locked)) 9 9 0 = 2 ∧ refusal (part (ring .active locked)) 1 8 0 = 3 ∧
      refusal (part (ring .active locked)) 6 1 9 = 6 ∧ refusal (part (ring .disabled hunting)) 5 0 4 = 4 ∧
      refusal (part (ring .disabled hunting)) 6 0 3 = 9 ∧ refusal (part (ring .faultHeld locked)) 5 0 0 = 8 ∧
      refusal (part (ring .active locked)) 5 0 0 = 9 ∧ refusal (part (ring .faultHeld locked)) 6 0 2 = 9 := by
  decide

theorem witness_NoRefusal : ∀ x ∈ [(ring .active locked, 2), (ring .active locked, 3), (ring .active locked, 4),
      (ring .active locked, 6), (ring .faultHeld locked, 3), (ring .disabled hunting, 1)],
    refusal (part x.1) x.2 0 0 = 0 := by
  decide

/-- With no profile in force the check is made, and its record is not written (R158). -/
theorem witness_NoProfile : let s := (part (ring .active locked)).modControl fun u => { u with device := none }
    s.takesControlWrite (give 7 0 0) 0x300 ∧ s.mayControl 5 = true ∧ s.commonCheck (commandOf 0x300 (give 7 0 0)) = some .noProfile ∧
      s.commonCheck (commandOf 0x300 (give 6 9 0)) = some .badRing := by
  decide

theorem witness_HeldCommands : (part (ring .faultHeld locked)).rings[(0 : RingId)].validity = .valid ∧
    (part (ring .faultHeld locked)).rings[(0 : RingId)].opState = .faultHeld ∧ (3 : Byte).toNat < 4 ∧
    slotOfByte? 1 = some 1 ∧ (part (ring .faultHeld locked)).rings[(0 : RingId)].roster[(1 : SlotId)].state = .attached := by
  decide

/-! ## Witnesses: the memory port -/

/-- The part in which all four sources request: a waiting write, a READING job, an owed head word, a load. -/
def requesting : State :=
  { (setBerth 0 (inState .checking) (part (ring .active locked))).passWrite none (put 9 0 [0]) with
    verify := ⟨[⟨0, 0, 1, 1, .reading⟩], 0, crcInit, emptyTail, 0⟩
    report := { State.reset.report with headOwed := true }
    control := ⟨some device, .busy, 1, false, some (Load.begin (.reload 5 0))⟩ }

theorem witness_Grant : ∀ x ∈ [(Source.passThrough, Source.verify), (.verify, .report), (.report, .loader), (.loader, .passThrough)],
    let s := requesting.modPort fun p => { p with lastGranted := x.1 }
    s.linkSettled ∧ s.releasedWaits = false ∧ s.port.inFlight.length < 16 ∧
      s.port.lastGranted.after.find? s.requests = some x.2 := by
  decide

/-- What the Report Engine of a part writes next, with a change to it. -/
def chosen (f : ReportEngine → ReportEngine) : Option ReportWrite := ((part (ring .active locked)).modReport f).reportNext

/-- One buffered record. -/
def oneRecord : List Record := [⟨.lockLost, 0, 0, 0, 0, 0, 0, 0⟩]

/-- The Report Engine's choices: an owed head word, a part in turn with a record, a part alone, REPORTS_DROPPED, a record. -/
theorem witness_ReportNext : chosen id = none ∧ chosen (fun e => { e with headOwed := true }) = some .headWord ∧
    chosen (fun e => { e with writeOut := .writing 9 0, buffer := oneRecord, lastTurn := .record }) =
      some (.snapshotPart 9) ∧
    chosen (fun e => { e with writeOut := .writing 9 0, buffer := oneRecord, lastTurn := .part }) = some .record ∧
    chosen (fun e => { e with writeOut := .writing 1 0 }) = some (.snapshotPart 1) ∧
    chosen (fun e => { e with writeOut := .writing 10 0, dropped := 2, buffer := oneRecord }) = some (.dropped 2) ∧
    chosen (fun e => { e with buffer := oneRecord }) = some .record ∧
    chosen (fun e => { e with buffer := oneRecord, head := 63 }) = none ∧ requesting.requests .report = true := by
  decide

/-- Addresses, lengths and bytes of the part's own requests: the head word, REPORTS_DROPPED at place 63, the last snapshot part
and the status word of a rejected start-up load. -/
theorem test_requests :
    let s := (part (ring .active locked)).modReport fun e => { e with head := 63 }
    let l : Load := ⟨.startUp, .statusWord false, [], 11, 11, some .rejectedCheck, noOffsets, false⟩
    s.reportRequest .headWord = ⟨.report .headWord, 0xFFFFF310, 8, some [63, 0, 0, 0, 0, 0, 0, 0]⟩ ∧
      s.reportRequest (.dropped 5) =
        ⟨.report (.dropped 5), 0x203F0, 16, some [5, 0xFF, 0, 0, 0, 0, 0xFF, 0, 0, 0, 0, 0, 5, 0, 0, 0]⟩ ∧
      ((s.reportRequest (.snapshotPart 9)).address, (s.reportRequest (.snapshotPart 9)).write) =
        (0xFFFFFA00, some (List.replicate 40 0)) ∧
      s.loaderRequest l .statusWord = ⟨.loader .statusWord, 0xFFFFF308, 8, some [2, 1, 0, 1, 2, 0, 0, 0]⟩ ∧
      s.verifyRequest ⟨0, 2, 1, 1, .reading⟩ = ⟨.verify 0 2 2 1, 0x10100, 16, none⟩ := by
  decide

/-- Every grant is due: one write, one read of the job, the head word, eleven reads of the load. -/
theorem test_due : requesting.due.port.inFlight.length = 14 ∧ requesting.due.grantee = none := by decide

/-- A place that a completion frees goes to the source that requested then, not to a write that comes later (R129). -/
theorem test_freed_place :
    let s := { requesting with
      control := ⟨some device, .idle, 1, false, none⟩, report := State.reset.report
      port := ⟨[], List.replicate 16 ⟨.report .record, 0x20000, 16, some []⟩, .passThrough⟩ }
    (after (.plainWrite (put 9 0 [0])) (after (.reportWriteCompletion true) s)).port.inFlight.map (·.origin) =
      List.replicate 15 (.report .record) ++ [.verify 0 0 0 1] := by
  decide

/-- The part with a released read behind an entry that waits. -/
def released : State :=
  (part (ring .active locked)).modHolds fun _ =>
    [⟨fetch 4 0x10090, 0, 1, 0, 100, none⟩, ⟨fetch 3 0x10010, 0, 0, 0, 100, some .okay⟩]

/-- Berth 1 becomes poisoned with two pass-through entries free: of the two reads it releases the older enters, behind the
released read that waited. -/
theorem test_settle_releases :
    let s := released.modPort fun p => { p with passThrough := List.replicate 30 ⟨1, 9, 0, 1, .write [0] none, true⟩ }
    let s := s.modHolds fun _ => [⟨fetch 3 0x10010, 0, 0, 0, 100, some .okay⟩, ⟨fetch 4 0x10090, 0, 1, 0, 100, none⟩,
      ⟨fetch 6 0x10110, 0, 2, 0, 100, none⟩, ⟨fetch 5 0x10090, 0, 1, 0, 100, none⟩]
    let t := s.settleReleases (s.releaseHolds 1 .poisoned)
    (t.port.passThrough.drop 30).map (fun e => (e.initiator, e.body)) =
        [(3, .read .okay), (4, .read .poisoned)] ∧
      t.holds.map (fun h => (h.read.initiator, h.released)) = [(5, some .poisoned), (6, none)] := by
  decide

/-- Two reads wait on the link behind a port that opens: both are taken, in order. -/
theorem witness_Acceptance :
    let s := (part (ring .active locked)).modLink fun _ => [.read (fetch 9 0), .read (fetch 8 0)]
    s.accepts = true ∧ s.tagsDistinct ∧ s.drainLink.link = [] ∧
      s.drainLink.port.passThrough.map (·.initiator) = [9, 8] := by
  decide

theorem witness_ReleasedRead : released.port.passThrough.length < 32 ∧
    (after .releasedReadEntry released).port.passThrough.map (·.body) = [.read .okay] ∧
    (after .releasedReadEntry released).holds = [⟨fetch 4 0x10090, 0, 1, 0, 100, none⟩] := by
  decide

/-- The part with an entry issued. -/
def issued (body : PassBody) : State :=
  (part (ring .active locked)).modPort fun _ =>
    ⟨[⟨1, 9, 0x10000, 8, body, true⟩], [⟨.passThrough 1 9, 0x10000, 8, none⟩], .passThrough⟩

theorem witness_PassThrough : ∀ b ∈ [PassBody.read .okay, .read .poisoned, .write [0] none],
    (issued b).port.entry? 1 9 = some ⟨1, 9, 0x10000, 8, b, true⟩ ∧ (issued b).nothingDue ∧
      (⟨1, 9, 0x10000, 8, b, true⟩ : PassEntry).tracked? = none ∧
      (after (.passThroughCompletion .memfault) (issued b)).responses.map (·.code) = [.memfault] := by
  decide

/-- The part with a tracked write of a generation to berth 3 in flight, the berth in a state. -/
def tracking (b : BerthState) (g : BitVec 8) : State :=
  setBerth 3 (inState b) (issued (.write lead (some ⟨0, 3, g⟩)))

theorem witness_Tracked : ∀ b ∈ [BerthState.filling, .settling, .damaged], ∀ g ∈ [(0 : BitVec 8), 1],
    (tracking b g).port.entry? 1 9 = some ⟨1, 9, 0x10000, 8, .write lead (some ⟨0, 3, g⟩), true⟩ ∧
      3 = (tracking b g).poolIndex 0 3 ∧ (tracking b g).nothingDue ∧ ((tracking b g).berth 3).generation = 1 ∧
      ((tracking b g).berth 3).state = b ∧ ((tracking b g).berth 3).outstanding = 1 ∧
      ((tracking b g).berth 3).damage = none ∧
      ((after (.trackedWriteCompletion false) (tracking b g)).berth 3).state =
        (if b = .settling ∧ g = 1 then .ready else b) ∧
      ((after (.trackedWriteCompletion true) (tracking b g)).berth 3).damage =
        if b ≠ .damaged ∧ g = 1 then some .memoryFault else none := by
  decide

/-- A fault at a berth that is DAMAGED already and at a FREE one, without strict and under it. -/
theorem witness_TrackedFaultElsewhere : ∀ b ∈ [BerthState.damaged, .free], ∀ isStrict : Bool,
    let s := under (fun p => { p with strict := isStrict }) (tracking b 1)
    s.port.entry? 1 9 = some ⟨1, 9, 0x10000, 8, .write lead (some ⟨0, 3, 1⟩), true⟩ ∧ 3 = s.poolIndex 0 3 ∧
      s.nothingDue ∧ (s.berth 3).generation = 1 ∧ (s.berth 3).state = b ∧
      s.rings[(0 : RingId)].profile.strict = isStrict ∧ s.rings[(0 : RingId)].opState = .active ∧
      (after (.trackedWriteCompletion true) s).report.buffer.map (·.kind) =
        if isStrict then [.memoryFault, .faultHeld] else [.memoryFault] := by
  decide

theorem witness_TrackedFree : (tracking .free 1).nothingDue ∧ ((tracking .free 1).berth 3).state = .free ∧
    ((tracking .free 1).berth 3).generation = 1 ∧
    (after (.trackedWriteCompletion false) (tracking .free 1)).berth 3 = (tracking .free 1).berth 3 := by
  decide

/-- A SETTLING berth with another write outstanding. -/
theorem witness_TrackedTwo :
    2 ≤ ((setBerth 3 { inState .settling with outstanding := 2 } (tracking .settling 1)).berth 3).outstanding := by decide

/-- The part with a verify read of berth 0 in flight, of a generation. -/
def verifying (g : BitVec 8) : State :=
  { setBerth 0 (inState .checking) (part (ring .active locked)) with
    verify := ⟨[⟨0, 0, 1, 1, .comparing⟩], 56, crcInit, emptyTail, 1⟩
    port := ⟨[], [⟨.verify 0 0 0 g, 0x10000, 8, none⟩], .verify⟩ }

theorem witness_Verify : (verifying 0).nothingDue ∧ (verifying 1).nothingDue ∧
    (verifying 1).verify.queue.head? = some ⟨0, 0, 1, 1, .comparing⟩ ∧
    (0x10000 : Addr).toNat % (verifying 1).rings[(0 : RingId)].profile.berthSize + 8 ≠
      (verifying 1).jobEnd ⟨0, 0, 1, 1, .comparing⟩ ∧
    (after (.verifyReadCompletion (.okay lead)) (verifying 0)).verify.check = crcInit ∧
    (after (.verifyReadCompletion (.okay lead)) (verifying 1)).verify.check = crcFeed crcInit lead := by
  decide

/-- A stale completion that faulted: reported, with no berth damaged. -/
theorem test_stale_verify_fault :
    let t := after (.verifyReadCompletion .memfault) (verifying 0)
    t.report.buffer.map (·.kind) = [.memoryFault] ∧ t.verify.outstanding = 0 ∧ (t.ringBerth 0 0).damage = none := by
  decide

/-- The last read of a try over a record of L = 0, under a number of tries. -/
def lastRead (tries : Nat) : State :=
  { setBerth 0 { inState .checking with payload := some 0, check := 0xa952fc16 }
      (under (fun p => { p with verifyTries := tries }) (part (ring .active locked))) with
    verify := ⟨[⟨0, 0, 1, 1, .comparing⟩], 16, crcInit, emptyTail, 1⟩
    port := ⟨[], [⟨.verify 0 0 0 1, 0x10000, 16, none⟩], .verify⟩ }

/-- The try passes; it fails and tries remain; it fails and none remain; the read faults. -/
theorem witness_TryEnds :
    (∀ n ∈ [1, 2], (lastRead n).nothingDue ∧ 0 = (lastRead n).poolIndex 0 0 ∧
      (0x10000 : Addr).toNat % (lastRead n).rings[(0 : RingId)].profile.berthSize + 16 =
        (lastRead n).jobEnd ⟨0, 0, 1, 1, .comparing⟩ ∧ (lastRead n).rings[(0 : RingId)].profile.verifyTries = n) ∧
    ((after (.verifyReadCompletion (.okay (shortRecord [0x16, 0xfc, 0x52, 0xa9]).data)) (lastRead 1)).ringBerth 0 0).state =
      .ready ∧
    (after (.verifyReadCompletion (.okay [])) (lastRead 2)).verify.queue = [⟨0, 0, 1, 2, .reading⟩] ∧
    ((after (.verifyReadCompletion (.okay [])) (lastRead 1)).ringBerth 0 0).damage = some .verifyFailed ∧
    ((after (.verifyReadCompletion .memfault) (lastRead 1)).ringBerth 0 0).damage = some .memoryFault := by
  decide

/-- The part with a Report Engine write in flight, the head at the last place. -/
def writing (x : ReportWrite) : State :=
  { part (ring .active locked) with
    report := { State.reset.report with head := 63, headOwed := x = .headWord }
    port := ⟨[], [⟨.report x, 0x203F0, 16, some []⟩], .report⟩ }

theorem witness_Report : ∀ x ∈ [ReportWrite.record, .headWord], (writing x).control.device = some device ∧
    (writing x).nothingDue ∧ (after (.reportWriteCompletion false) (writing x)).report.head = (if x = .record then 0 else 63) ∧
    (after (.reportWriteCompletion false) (writing x)).report.headOwed = (x = .record) := by
  decide

/-- The part with a REPORTS_DROPPED of 5 in flight, and so many counted since. -/
def faultedDrop (c : Word) : State := (writing (.dropped 5)).modReport fun e => { e with dropped := c }

/-- REPORTS_DROPPED that carried 5: the count comes back on a fault, and saturates. -/
theorem witness_ReportDropped :
    (faultedDrop 2).control.device = some device ∧ (faultedDrop 2).nothingDue ∧ (faultedDrop 0xFFFFFFFF).nothingDue ∧
    (after (.reportWriteCompletion true) (faultedDrop 2)).report.dropped = 7 ∧
      (after (.reportWriteCompletion true) (faultedDrop 0xFFFFFFFF)).report.dropped = 0xFFFFFFFF ∧
      (after (.reportWriteCompletion false) (faultedDrop 2)).report.head = 0 := by
  decide

/-- A snapshot part of a write-out whose next part is this, with a request pending or not. -/
def partWritten (part next : Nat) (pending : Bool) : State :=
  (writing (.snapshotPart part)).modReport fun e => { e with writeOut := .writing next 1, snapshotPending := pending }

theorem witness_SnapshotPart :
    (∀ x ∈ [(3, 4), (9, 10)], ∀ pending : Bool, (partWritten x.1 x.2 pending).control.device = some device ∧
      (partWritten x.1 x.2 pending).nothingDue) ∧
    (after (.reportWriteCompletion true) (partWritten 3 4 false)).report.writeOut = .writing 4 2 ∧
    (after (.reportWriteCompletion true) (partWritten 9 10 false)).report.buffer.map (fun c => (c.kind, c.detail)) =
      [(.snapshotDone, 2)] ∧
    (after (.reportWriteCompletion false) (partWritten 9 10 true)).report.writeOut = .writing 1 0 ∧
    (after (.reportWriteCompletion false) (partWritten 9 10 true)).report.period = 1 := by
  decide

/-- The part with a loader request in flight. -/
def loading (x : LoaderStep) (l : Load) : State :=
  { State.reset with
    pins := ⟨true, true, 0⟩, port := ⟨[], [⟨.loader x, 0, 8, none⟩], .loader⟩
    control := ⟨none, .loading, 0, false, some l⟩ }

/-- Every read of the load is on its way or done. -/
def readsDone (n : Nat) (result : Option LoadResult) (bytes : List Byte) : Load :=
  ⟨.startUp, .reading, bytes, 11, n, result, noOffsets, false⟩

theorem witness_ProfileRead :
    (∀ l ∈ [readsDone 0 none [], readsDone 10 none [], readsDone 10 (some .memoryFault) []],
      (loading (.readBlock 0) l).nothingDue) ∧
    (readsDone 0 none []).result = none ∧ (readsDone 0 none []).completed + 1 ≠ 11 ∧
      (readsDone 10 none []).completed + 1 = 11 ∧ (readsDone 10 (some .memoryFault) []).result ≠ none ∧
      (after (.loaderReadCompletion .memfault) (loading (.readBlock 0) (readsDone 0 none []))).control.load.map (·.result) =
        some (some .memoryFault) ∧
      (after (.loaderReadCompletion (.okay lead)) (loading (.readBlock 0) (readsDone 10 none []))).control.load.map (·.result) =
        some (some .rejectedCheck) := by
  decide

/-- The end of an accepted load of the image with ring 0 flagged. -/
theorem witness_AcceptedLoad :
    let l : Load :=
      ⟨.startUp, .statusWord true, image, 11, 11, some .accepted, #v[some 0, some 4, none, none, none, none, none, none],
        true⟩
    l.result = some .accepted ∧ (loading .statusWord l).holds = [] ∧ (loading .statusWord l).nothingDue ∧
      (after (.loaderWriteCompletion false) (loading .statusWord l)).rings[(0 : RingId)].opState = .active ∧
      (after (.loaderWriteCompletion false) (loading .statusWord l)).rings[(1 : RingId)].opState = .disabled ∧
      (after (.loaderWriteCompletion false) (loading .statusWord l)).rings[(1 : RingId)].poolOffset = some 4 ∧
      (after (.loaderWriteCompletion false) (loading .statusWord l)).rings[(2 : RingId)].validity = .invalid := by
  decide

/-- The RELOAD whose load is accepted, with two records in the buffer, one dropped before, and a released read in its place. -/
theorem witness_AcceptedReload :
    let l : Load :=
      ⟨.reload 5 0, .statusWord true, image, 11, 11, some .accepted, #v[some 0, some 4, none, none, none, none, none, none], true⟩
    let s := { loading .statusWord l with
      holds := [⟨fetch 3 0x10010, 0, 0, 0, 100, some .okay⟩]
      port := { (loading .statusWord l).port with passThrough := List.replicate 32 ⟨1, 9, 0, 1, .write [0] none, true⟩ }
      report := { State.reset.report with buffer := oneRecord ++ oneRecord, dropped := 1 } }
    s.nothingDue ∧ s.withinCapacity ∧ (s.holds.all fun h => !h.waiting) = true ∧
      let t := after (.loaderWriteCompletion false) s
      t.report.buffer.map (fun c => (c.kind, c.detail, c.extra)) = [(.loadDone, 1, 1), (.commandDone, 0, 8)] ∧
        t.report.dropped = 3 ∧ t.holds = s.holds ∧
        t.rings[(0 : RingId)].roster[(0 : SlotId)].state = .attached ∧
        t.rings[(1 : RingId)].roster[(0 : SlotId)].state = .detached := by
  decide

/-- A rejected load's head word and status word, of a start-up load and of a RELOAD. -/
theorem witness_RejectedLoad : ∀ k ∈ [LoadKind.startUp, .reload 5 0],
    let l : Load := ⟨k, .statusWord true, [], 11, 11, some .rejectedCheck, noOffsets, false⟩
    (loading .headWord l).nothingDue ∧ (loading .statusWord l).nothingDue ∧ l.result ≠ some .accepted ∧
      (after (.loaderWriteCompletion false) (loading .statusWord l)).control.attention = (k = .startUp) ∧
      (after (.loaderWriteCompletion false) (loading .statusWord l)).control.loadCount = 1 ∧
      (after (.loaderWriteCompletion true) (loading .headWord l)).control.load.map (·.result) = some (some .memoryFault) := by
  decide

/-! ## Witnesses: expiries -/

theorem witness_Quiet : ∀ flag : Bool,
    let s := part (ring .active { locked with quietTimer := some 0, quietFlag := flag })
    s.quietDue 0 = true ∧ s.nothingDue ∧ s.rings[(0 : RingId)].tracking.quietFlag = flag ∧
      s.rings[(0 : RingId)].profile.abandonOnQuiet = false ∧
      (after (.quietTimerExpiry 0) s).report.buffer.length = if flag then 0 else 1 := by
  decide

theorem witness_QuietAbandons :
    let s := setBerth 3 (inState .filling) (under (fun p => { p with abandonOnQuiet := true })
      (part (ring .active { locked with quietTimer := some 0 })))
    s.quietDue 0 = true ∧ s.nothingDue ∧ s.rings[(0 : RingId)].profile.abandonOnQuiet = true ∧ s.fillingCurrent 0 = some 3 ∧
      ((after (.quietTimerExpiry 0) s).ringBerth 0 3).damage = some .abandoned := by
  decide

theorem witness_HoldDeadline :
    let h : HoldPlace := ⟨fetch 3 0x10010, 0, 0, 0, 100, none⟩
    let s := ((part (ring .active locked)).modHolds fun _ => [h]).modTimeBase fun t => { t with now := 100 }
    s.nothingDue ∧
      s.holds.find? (fun x => s.holdDue x && x.read.initiator == h.read.initiator && x.read.tag == h.read.tag) = some h ∧
      (after (.holdDeadline 3 9) s).counter 0 .peakHoldTime = 100 := by
  decide

theorem witness_Period : ∀ s ∈ [part (ring .active locked), writingOut].map fun s =>
      s.modReport fun e => { e with periodTimer := some 0 },
    s.periodDue = true ∧ s.nothingDue ∧ s.control.device = some device ∧ device.snapshotPeriod ≠ 0 := by
  decide

/-! ## Witnesses: the rules' arithmetic -/

theorem witness_Sequences : ((0x8104 : Seq).toNat + 65536 - (0x0104 : Seq).toNat) % 65536 = 32768 := by decide

theorem witness_Counters : (⟨Vector.replicate 16 0xFFFFFFFF, 0⟩ : CounterSet).get .slips = 0xFFFFFFFF ∧
    CounterSet.zero.get .slips ≠ 0xFFFFFFFF ∧ Counter.slips ≠ Counter.reclaims := by decide

end Sys2Proof.Tests
end

-- ==== Allotted runs ====
section
/-! PROOFS. The runs of the pool that a load allots (R7, R150): they lie inside the pool and follow each other in ring order. -/

namespace Sys2Proof.Machine

open Sys2Proof Sys2Proof.Config

/-- The rings judged so far, all of number below n, have runs below the running sum, in ring order, and group sizes that a
profile may give (R7, R147, R150). -/
structure Verdict.Ordered (image : List Byte) (n : Nat) (v : Verdict) : Prop where
  sum_le : v.sum ≤ poolSize
  unjudged : ∀ r : RingId, n ≤ r.val → v.offsets[r] = none
  run_le : ∀ (r : RingId) (o : Nat), v.offsets[r] = some o → o + berthCountOf image r ≤ v.sum
  sizes : ∀ (r : RingId) (o : Nat), v.offsets[r] = some o →
    1 ≤ (ringProfileOf image r).groupSize ∧ (ringProfileOf image r).groupSize ≤ 16
  follows : ∀ (r : RingId) (o : Nat), v.offsets[r] = some o →
    ∀ (q : RingId) (x : Nat), r < q → v.offsets[q] = some x → o + berthCountOf image r ≤ x

theorem noOffsets_get (r : RingId) : noOffsets[r] = none := by
  revert r; decide

/-- A valid ring profile has a group size of 1..16 (R147). -/
theorem groupSize_of_ringOk (image : List Byte) (r : RingId) (taken : List (Nat × Nat)) (sum : Nat)
    (h : ringOk image r taken sum = true) :
    1 ≤ (ringProfileOf image r).groupSize ∧ (ringProfileOf image r).groupSize ≤ 16 := by
  simp only [ringOk, ringFieldsOk, Bool.and_eq_true, decide_eq_true_eq] at h
  simp only [ringProfileOf]
  omega

/-- A valid ring's berths fit in the pool after those of the rings before it (R150). -/
theorem sum_of_ringOk (image : List Byte) (r : RingId) (taken : List (Nat × Nat)) (sum : Nat)
    (h : ringOk image r taken sum = true) : sum + berthCountOf image r ≤ poolSize := by
  simp only [ringOk, Bool.and_eq_true, decide_eq_true_eq] at h
  exact h.2

/-- Ring n is judged after the rings below n, and takes the running sum as its offset. -/
theorem Verdict.Ordered.judge {image : List Byte} {v : Verdict} (r : RingId) (h : v.Ordered image r.val) :
    (v.judge image r).Ordered image (r.val + 1) := by
  unfold Verdict.judge
  split
  · rename_i ok
    have get (q : RingId) : (v.offsets.set r.val (some v.sum))[q] = if r.val = q.val then some v.sum else v.offsets[q] := by
      simp only [Fin.getElem_fin, Vector.getElem_set]
    refine ⟨sum_of_ringOk _ _ _ _ ok, fun q hq => ?_, fun q o ho => ?_, fun q o ho => ?_, fun q o ho p x hp hx => ?_⟩
    · rw [get, if_neg (by omega)]
      exact h.unjudged q (by omega)
    · rw [get] at ho
      split at ho
      · next e => cases ho; rw [Fin.ext e]
      · exact (h.run_le q o ho).trans (Nat.le_add_right _ _)
    · rw [get] at ho
      split at ho
      · next e => rw [← Fin.ext e]; exact groupSize_of_ringOk _ _ _ _ ok
      · exact h.sizes q o ho
    · rw [get] at ho hx
      split at hx
      · next e =>
        rw [if_neg (by rw [e]; exact Nat.ne_of_gt hp)] at ho
        cases hx
        exact h.run_le q o ho
      · split at ho
        · next e => rw [h.unjudged p (e ▸ Nat.le_of_lt hp)] at hx; cases hx
        · exact h.follows q o ho p x hp hx
  · exact ⟨h.sum_le, fun q hq => h.unjudged q (by omega), h.run_le, h.sizes, h.follows⟩

/-- The verdict once all the rings of an image are judged. -/
theorem ordered_judged (ctlsel : BitVec 4) (image : List Byte) :
    (allRings.foldl (Verdict.judge image) ⟨noOffsets, deviceExtents ctlsel image, 0⟩).Ordered image 8 := by
  have start : (⟨noOffsets, deviceExtents ctlsel image, 0⟩ : Verdict).Ordered image (0 : RingId).val := by
    refine ⟨Nat.zero_le _, fun r _ => noOffsets_get r, ?_, ?_, ?_⟩ <;>
      (intro r o ho; rw [noOffsets_get] at ho; cases ho)
  exact ((((((((start.judge 0).judge 1).judge 2).judge 3).judge 4).judge 5).judge 6).judge 7)

/-- Settles O11: each ring takes the running sum of the rings judged before it. -/
theorem allottedRunsFollowEachOther : Obligations.AllottedRunsFollowEachOther := by
  intro ctlsel image r o ho
  have h := ordered_judged ctlsel image
  exact ⟨(h.run_le r o ho).trans h.sum_le, h.follows r o ho⟩

/-- The offsets that an image gives its rings are sound for a load (R7, R150). -/
theorem verdictSound_validOffsets (ctlsel : BitVec 4) (l : Load) (h : l.verdict = validOffsets ctlsel l.image) :
    l.verdictSound := by
  have v := ordered_judged ctlsel l.image
  intro r o ho
  rw [h] at ho
  refine ⟨(v.run_le r o ho).trans v.sum_le, (v.sizes r o ho).1, (v.sizes r o ho).2, fun q x hq hx => ?_⟩
  rw [h] at hx
  rcases Nat.lt_or_gt_of_ne (fun e => hq (Fin.ext e) : q.val ≠ r.val) with hl | hl
  · exact Or.inr (v.follows q x hx r o hl ho)
  · exact Or.inl (v.follows r o ho q x hl hx)

end Sys2Proof.Machine
end

-- ==== Calm operations ====
section
/-! PROOFS. What an operation may do to the rings' runs and to the FILLING berths. `Calm m s t`: from s to t no run of the pool
and no load changes, no berth becomes FILLING, and only the rings in m change their operating state, current berth or
alignment state. Each lemma `Calm.op` carries the relation over one more operation. -/

namespace Sys2Proof.Machine

open Sys2Proof Sys2Proof.Config

/-- What lays out a ring's run of the pool (R7). -/
def RingRecord.layout (g : RingRecord) : RingProfile × Option Nat × Validity := (g.profile, g.poolOffset, g.validity)

/-- What says whether a ring may have a FILLING berth, and which (R1, R10, R29). -/
def RingRecord.stand (g : RingRecord) : OpState × Option Nat × AlignState :=
  (g.opState, g.tracking.current, g.tracking.align)

/-- No run and no load changes, no berth becomes FILLING, and the rings outside m stand as they did. -/
structure Calm (m : Set RingId) (s t : State) : Prop where
  layout : ∀ r : RingId, t.rings[r].layout = s.rings[r].layout
  load : t.control.load = s.control.load
  stand : ∀ r : RingId, r ∉ m → t.rings[r].stand = s.rings[r].stand
  filling : ∀ p : Nat, (t.berth p).state = .filling → (s.berth p).state = .filling

section

variable {m : Set RingId} {s t : State}

theorem Calm.refl (m : Set RingId) (s : State) : Calm m s s := ⟨fun _ => rfl, rfl, fun _ _ => rfl, fun _ h => h⟩

theorem Calm.trans {u : State} (h : Calm m s t) (h' : Calm m t u) : Calm m s u :=
  ⟨fun r => (h'.layout r).trans (h.layout r), h'.load.trans h.load, fun r hr => (h'.stand r hr).trans (h.stand r hr),
    fun p hp => h.filling p (h'.filling p hp)⟩

theorem Calm.mono {m' : Set RingId} (h : Calm m s t) (hm : m ⊆ m') : Calm m' s t :=
  ⟨h.layout, h.load, fun r hr => h.stand r fun h' => hr (hm h'), h.filling⟩

theorem Calm.ite {c : Prop} [Decidable c] {a b : State} (ha : Calm m s a) (hb : Calm m s b) :
    Calm m s (if c then a else b) := by
  split
  · exact ha
  · exact hb

theorem Calm.foldl {α : Type} (g : State → α → State) (hg : ∀ u a, Calm m s u → Calm m s (g u a)) (l : List α)
    (h : Calm m s t) : Calm m s (l.foldl g t) := by
  induction l generalizing t with
  | nil => exact h
  | cons a l ih => exact ih (hg t a h)

/-- A change outside the rings, the pool and the load. -/
theorem Calm.outside {u : State} (h : Calm m s t) (hr : u.rings = t.rings) (hp : u.pool = t.pool)
    (hl : u.control.load = t.control.load) : Calm m s u :=
  h.trans ⟨fun r => by rw [hr], hl, fun r _ => by rw [hr], fun p => by rw [berth_congr t u p hp]; exact id⟩

/-! ## The blocks -/

theorem Calm.modRing (h : Calm m s t) (r : RingId) (f : RingRecord → RingRecord)
    (hl : ∀ g, (f g).layout = g.layout := by exact fun _ => rfl)
    (hs : r ∈ m ∨ ∀ g, (f g).stand = g.stand := by exact .inr fun _ => rfl) : Calm m s (t.modRing r f) := by
  refine h.trans ⟨fun q => ?_, rfl, fun q hq => ?_, fun _ h => h⟩
  · by_cases e : q = r
    · rw [e, ring_modRing_same, hl]
    · rw [ring_modRing_other _ _ _ _ e]
  · by_cases e : q = r
    · subst e
      rw [ring_modRing_same, hs.resolve_left hq]
    · rw [ring_modRing_other _ _ _ _ e]

theorem Calm.modTracking (h : Calm m s t) (r : RingId) (f : Tracking → Tracking)
    (hs : r ∈ m ∨ ∀ k, (f k).current = k.current ∧ (f k).align = k.align := by exact .inr fun _ => ⟨rfl, rfl⟩) : Calm m s (t.modTracking r f) :=
  h.modRing r _ (fun _ => rfl) (hs.imp id fun hf g => by simp [RingRecord.stand, hf])

theorem Calm.modSlot (h : Calm m s t) (r : RingId) (k : SlotId) (f : Slot → Slot) : Calm m s (t.modSlot r k f) :=
  h.modRing r _

theorem Calm.modBerth (h : Calm m s t) (p : Nat) (f : Berth → Berth)
    (hf : ∀ b, (f b).state = .filling → b.state = .filling := by exact fun _ => nofun) : Calm m s (t.modBerth p f) := by
  refine h.trans ⟨fun r => by rw [rings_modBerth], by rw [control_modBerth], fun r _ => by rw [rings_modBerth],
    fun q hq => ?_⟩
  by_cases hp : p < 2048
  · by_cases e : q = p
    · subst e
      rw [berth_modBerth_same _ _ _ hp] at hq
      exact hf _ hq
    · rwa [berth_modBerth_other _ _ _ _ e] at hq
  · simpa [State.modBerth, hp] using hq

/-- A change of a berth that leaves its state. -/
theorem Calm.fillBerth (h : Calm m s t) (p : Nat) (f : Berth → Berth)
    (hf : ∀ b, (f b).state = b.state := by exact fun _ => rfl) : Calm m s (t.modBerth p f) :=
  h.modBerth p f fun b hb => (hf b).symm.trans hb

theorem Calm.modHolds (h : Calm m s t) (f) : Calm m s (t.modHolds f) := h.outside rfl rfl rfl
theorem Calm.modVerify (h : Calm m s t) (f) : Calm m s (t.modVerify f) := h.outside rfl rfl rfl
theorem Calm.modPort (h : Calm m s t) (f) : Calm m s (t.modPort f) := h.outside rfl rfl rfl
theorem Calm.modReport (h : Calm m s t) (f) : Calm m s (t.modReport f) := h.outside rfl rfl rfl
theorem Calm.modLink (h : Calm m s t) (f) : Calm m s (t.modLink f) := h.outside rfl rfl rfl
theorem Calm.modPins (h : Calm m s t) (f) : Calm m s (t.modPins f) := h.outside rfl rfl rfl
theorem Calm.modTimeBase (h : Calm m s t) (f) : Calm m s (t.modTimeBase f) := h.outside rfl rfl rfl
theorem Calm.setEpisode (h : Calm m s t) (b) : Calm m s (t.setEpisode b) := h.outside rfl rfl rfl
theorem Calm.respond (h : Calm m s t) (i g c d) : Calm m s (t.respond i g c d) := h.outside rfl rfl rfl
theorem Calm.count (h : Calm m s t) (r c) : Calm m s (t.count r c) := h.outside rfl rfl rfl
theorem Calm.raisePeak (h : Calm m s t) (r c v) : Calm m s (t.raisePeak r c v) := h.outside rfl rfl rfl
theorem Calm.pushPass (h : Calm m s t) (e) : Calm m s (t.pushPass e) := h.outside rfl rfl rfl
theorem Calm.passRead (h : Calm m s t) (o r) : Calm m s (t.passRead o r) := h.outside rfl rfl rfl
theorem Calm.passWrite (h : Calm m s t) (k w) : Calm m s (t.passWrite k w) := h.outside rfl rfl rfl
theorem Calm.refuse (h : Calm m s t) (w) : Calm m s (t.refuse w) := h.outside rfl rfl rfl
theorem Calm.answer (h : Calm m s t) (c r) : Calm m s (t.answer c r) := h.outside rfl rfl rfl
theorem Calm.retire (h : Calm m s t) : Calm m s t.retire := h.outside rfl rfl rfl
theorem Calm.issue (h : Calm m s t) (q) : Calm m s (t.issue q) := h.outside rfl rfl rfl

theorem Calm.modControl (h : Calm m s t) (f : ControlUnit → ControlUnit) (hf : ∀ u, (f u).load = u.load := by exact fun _ => rfl) :
    Calm m s (t.modControl f) := h.outside rfl rfl (hf _)

theorem Calm.offer (h : Calm m s t) (c) : Calm m s (t.offer c) := h.outside (by simp) (by simp) (by simp)
theorem Calm.raise (h : Calm m s t) (c) : Calm m s (t.raise c) := h.outside (by simp) (by simp) (by simp)

theorem Calm.refuseInWindow (h : Calm m s t) (r c w) : Calm m s (t.refuseInWindow r c w) :=
  ((h.refuse w).raise c).count r _

theorem Calm.occupancyUp (h : Calm m s t) (r) : Calm m s (t.occupancyUp r) :=
  (h.modRing r _).raisePeak r _ _

theorem Calm.occupancyDown (h : Calm m s t) (r) : Calm m s (t.occupancyDown r) :=
  h.modRing r _

/-! ## The Hold Queue -/

theorem Calm.releaseHolds (h : Calm m s t) (p o) : Calm m s (t.releaseHolds p o) := by
  obtain ⟨c, hc⟩ := releaseHolds_spec t p o
  rw [hc]
  exact h.outside rfl rfl rfl

theorem Calm.endHolds (h : Calm m s t) (measured which) : Calm m s (t.endHolds measured which) := by
  obtain ⟨c, hc, -⟩ := endHolds_spec t measured which
  rw [hc]
  exact h.outside rfl rfl rfl

theorem Calm.offerHold (h : Calm m s t) (r index x) : Calm m s (t.offerHold r index x) :=
  .ite ((h.modHolds _).count r _) ((h.answer _ x).raise _)

theorem Calm.expireHold (h : Calm m s t) (x) : Calm m s (t.expireHold x) := by
  obtain ⟨c, hc, -⟩ := endHold_spec (t.modHolds fun hs => hs.erase x) true x
  have ended : Calm m s ((t.modHolds fun hs => hs.erase x).endHold true x) := by
    rw [hc]
    exact (h.modHolds fun hs => hs.erase x).outside rfl rfl rfl
  exact (ended.raise _).count _ _

theorem Calm.enterReleased (h : Calm m s t) : Calm m s t.enterReleased := by
  unfold State.enterReleased
  split
  · exact .ite ((h.modHolds _).passRead _ _) h
  · exact h

theorem Calm.enterAllReleased (n : Nat) (h : Calm m s t) : Calm m s (State.enterAllReleased n t) := by
  induction n generalizing t with
  | zero => exact h
  | succ n ih => exact .ite (ih h.enterReleased) h

theorem Calm.enterReleases (h : Calm m s t) : Calm m s t.enterReleases := .enterAllReleased _ h

theorem Calm.settleReleases (h : Calm m s t) (u : State) : Calm m s (u.settleReleases t) :=
  .ite (h.modHolds _).enterReleases h

/-! ## Release, publication and damage -/

theorem Calm.freeBerth (h : Calm m s t) (r index) : Calm m s (t.freeBerth r index) :=
  (h.modBerth _ _).occupancyDown r

theorem Calm.formPending (h : Calm m s t) (r index) : Calm m s (t.formPending r index) :=
  .ite (h.freeBerth r index) (h.fillBerth _ _)

theorem Calm.releaseSlot (h : Calm m s t) (r k index) : Calm m s (t.releaseSlot r k index) :=
  .ite (.ite (h.freeBerth r index) (h.fillBerth _ _)) h

theorem Calm.releaseSlotWhere (h : Calm m s t) (r k which) : Calm m s (t.releaseSlotWhere r k which) :=
  .foldl _ (fun _ i hu => .ite (hu.releaseSlot r k i) hu) _ h

theorem Calm.publish (h : Calm m s t) (r index) : Calm m s (t.publish r index) :=
  Calm.releaseHolds (Calm.formPending (h.modBerth _ _) r index) _ _

theorem Calm.publishStaged (h : Calm m s t) (r index) : Calm m s (t.publishStaged r index) := .ite (h.publish r index) h

theorem Calm.publishGroups (h : Calm m s t) (r bases) : Calm m s (t.publishGroups r bases) :=
  .foldl _ (fun _ i hu => hu.publishStaged r i) _ h

theorem Calm.publishAllStaged (h : Calm m s t) (r) : Calm m s (t.publishAllStaged r) := h.publishGroups r _

theorem Calm.groupTest (h : Calm m s t) (r) : Calm m s (t.groupTest r) := .ite (h.publishGroups r _) h

theorem Calm.stage (h : Calm m s t) (r index) : Calm m s (t.stage r index) :=
  Calm.groupTest (h.modBerth _ _) r

theorem Calm.publicationStep (h : Calm m s t) (r index) : Calm m s (t.publicationStep r index) :=
  .ite (h.stage r index) (h.publish r index)

/-- What a damage does once its berth is marked (steps 2 to 5 of R40). -/
theorem calm_damage_marked (u : State) (r : RingId) (index : Nat) (cause : DamageCause)
    (hd : (u.ringBerth r index).state ≠ .damaged) :
    Calm m (u.modBerth (u.poolIndex r index) fun b =>
      { b with damage := some ((u.ringBerth r index).damage.getD cause), state := .damaged }) (u.damage r index cause) := by
  unfold State.damage
  dsimp only
  rw [if_neg hd]
  have marked := ((Calm.refl m (u.modBerth (u.poolIndex r index) fun b =>
    { b with damage := some ((u.ringBerth r index).damage.getD cause), state := .damaged })).raise
      { kind := .berthDamaged, ring := ringField r, berth := berthField index, seq := seqField (u.ringBerth r index)
        initiator := claimantField (u.ringBerth r index)
        detail := ((u.ringBerth r index).damage.getD cause).code }).count r .berthsDamaged
  exact Calm.groupTest (Calm.releaseHolds (Calm.formPending (.ite (marked.modVerify _) marked) r index) _ _) r

theorem Calm.damage (h : Calm m s t) (r index cause) : Calm m s (t.damage r index cause) := by
  by_cases hd : (t.ringBerth r index).state = .damaged
  · unfold State.damage
    dsimp only
    rw [if_pos hd]
    exact h
  · exact (h.modBerth _ _).trans (calm_damage_marked t r index cause hd)

theorem Calm.abandonCurrent (h : Calm m s t) (r) : Calm m s (t.abandonCurrent r) := by
  unfold State.abandonCurrent
  split
  · exact h.damage r _ _
  · exact h

/-! ## The Ring Tracker and the group unit, but for their changes of a ring's alignment -/

theorem Calm.debounceCode (h : Calm m s t) (r index k) : Calm m s (t.debounceCode r index k) :=
  .ite (h.modTracking r _)
    (.ite ((h.modTracking r _).raise _) (h.modTracking r _))

theorem Calm.restartQuiet (h : Calm m s t) (r) : Calm m s (t.restartQuiet r) :=
  .ite (h.modTracking r _) h

theorem Calm.expireQuiet (h : Calm m s t) (r) : Calm m s (t.expireQuiet r) := by
  have stopped := h.modTracking r (fun k => { k with quietTimer := none })
  have flagged := fun c => (stopped.raise c).modTracking r (fun k => { k with quietFlag := true })
  exact .ite stopped (.ite ((flagged _).abandonCurrent r) (flagged _))

theorem Calm.clearQuietFlag (h : Calm m s t) (r) : Calm m s (t.clearQuietFlag r) :=
  h.modTracking r _

/-- SEARCH leaves the alignment (R71). -/
theorem toSearch_stand (k : Tracking) : k.toSearch.current = k.current ∧ k.toSearch.align = k.align := by
  unfold Tracking.toSearch
  split <;> exact ⟨rfl, rfl⟩

theorem Calm.toSearch (h : Calm m s t) (r) : Calm m s (t.modTracking r Tracking.toSearch) :=
  h.modTracking r _ (.inr toSearch_stand)

theorem Calm.lockGroup (h : Calm m s t) (r x) : Calm m s (t.lockGroup r x) :=
  (h.modTracking r _).raise _

theorem Calm.takeCandidate (h : Calm m s t) (r x) : Calm m s (t.modTracking r (Tracking.takeCandidate x)) :=
  h.modTracking r _ (.inr fun k => by unfold Tracking.takeCandidate; split <;> exact ⟨rfl, rfl⟩)

theorem Calm.examineSearch (h : Calm m s t) (r x) : Calm m s (t.examineSearch r x) := by
  have counted := h.modTracking r (fun k => { k with searchCount := k.searchCount + 1 })
  exact .ite (counted.lockGroup r x) (.ite
    (((counted.takeCandidate r x).modTracking r _).raise _) (counted.takeCandidate r x))

theorem Calm.examineUngrouped (h : Calm m s t) (r x) : Calm m s (t.examineUngrouped r x) :=
  .ite (.ite (h.lockGroup r x) (h.takeCandidate r x)) h

theorem Calm.loseGroup (h : Calm m s t) (r x) : Calm m s (t.loseGroup r x) :=
  ((h.publishAllStaged r).toSearch r).raise _

theorem Calm.examineLocked (h : Calm m s t) (r x) : Calm m s (t.examineLocked r x) := by
  have erred := (h.count r .groupErrors).modTracking r (fun k => { k with groupErrors := k.groupErrors + 1 })
  exact .ite (h.modTracking r _) (.ite (erred.loseGroup r x) erred)

theorem Calm.examine (h : Calm m s t) (r x) : Calm m s (t.examine r x) := by
  unfold State.examine
  dsimp only
  split
  · split
    · exact h
    · exact h.examineSearch r x
    · exact h.examineLocked r x
    · exact h.examineUngrouped r x
  · exact h

/-! ## The Berth Store's producer side -/

/-- What a write captures of the tail leaves the run and the ring's stand. -/
theorem Calm.capture (h : Calm m s t) (r payload offset w) : Calm m s (t.modRing r (RingRecord.capture payload offset w)) :=
  h.modRing r _ (fun g => by unfold RingRecord.capture; split <;> rfl)
    (.inr fun g => by unfold RingRecord.capture; split <;> rfl)

theorem Calm.trackWrite (h : Calm m s t) (r index offset w) : Calm m s (t.trackWrite r index offset w) :=
  ((Calm.capture (h.fillBerth _ _) r _ offset w).passWrite _ w).restartQuiet r

theorem Calm.reclaim (h : Calm m s t) (r index writer) : Calm m s (t.reclaim r index writer) := by
  unfold State.reclaim
  refine Calm.modBerth (Calm.count (Calm.raise ?_ _) r _) _ _
  have ended := (h.modRing r (RingRecord.lap (t.ringBerth r index).pendingSet)).endHolds true
    fun x => x.berth == t.poolIndex r index
  exact .ite (ended.modVerify _) ended

theorem Calm.refuseLive (h : Calm m s t) (r index w) : Calm m s (t.refuseLive r index w) := h.refuseInWindow r _ w

theorem Calm.writeInHunt (h : Calm m s t) (r index w) : Calm m s (t.writeInHunt r index w) :=
  .ite (h.passWrite none w) (h.refuseLive r index w)

/-! ## The Consumer Roster -/

theorem Calm.holdOrRefuse (h : Calm m s t) (r index x) : Calm m s (t.holdOrRefuse r index x) :=
  .ite (h.answer _ x) (h.offerHold r index x)

theorem Calm.readActive (h : Calm m s t) (r index x) : Calm m s (t.readActive r index x) := by
  have hold := h.holdOrRefuse r index x
  unfold State.readActive
  split
  · exact h.passRead _ x
  · exact h.passRead _ x
  · exact .ite (.ite hold (h.answer _ x)) (h.passRead _ x)
  all_goals exact hold

theorem Calm.readHeld (h : Calm m s t) (r index x) : Calm m s (t.readHeld r index x) := by
  unfold State.readHeld
  split
  · exact h.passRead _ x
  · exact h.passRead _ x
  all_goals exact h.answer _ x

theorem Calm.readWindow (h : Calm m s t) (r index x) : Calm m s (t.readWindow r index x) := by
  refine .ite (h.passRead _ x) ?_
  split
  · exact h.passRead _ x
  · split
    · exact h.passRead _ x
    · exact .ite (h.answer _ x) (h.readActive r index x)
    · exact .ite (h.answer _ x) (h.readHeld r index x)

theorem Calm.routeRead (h : Calm m s t) (a x) : Calm m s (t.routeRead a x) := by
  cases a
  case window r index o => exact h.readWindow r index x
  all_goals exact h.passRead _ x

theorem Calm.takeCursor (h : Calm m s t) (r k c writer) : Calm m s (t.takeCursor r k c writer) := by
  refine Calm.releaseSlotWhere (Calm.modSlot ?_ r k _) r k _
  split
  · exact .ite (h.raise _) h
  · exact h

theorem Calm.writeCursorArea (h : Calm m s t) (offset w) : Calm m s (t.writeCursorArea offset w) := by
  unfold State.writeCursorArea
  dsimp only
  split
  · exact (h.refuse w).raise _
  · exact .foldl _ (fun _ a hu => hu.takeCursor a.1 a.2 _ _) _ (h.passWrite none w)

theorem Calm.detachSlot (h : Calm m s t) (r k) : Calm m s (t.detachSlot r k) := by
  unfold State.detachSlot
  exact (((h.modSlot r k _).releaseSlotWhere r k _).endHolds true _).modSlot r k _

/-! ## The Report Engine, the Verify Engine and the grants of both -/

theorem Calm.startSnapshot (h : Calm m s t) : Calm m s t.startSnapshot := h.outside rfl rfl rfl

theorem Calm.requestSnapshot (h : Calm m s t) : Calm m s t.requestSnapshot := by
  unfold State.requestSnapshot
  split
  · exact h.startSnapshot
  · exact h.modReport _

theorem Calm.expirePeriod (h : Calm m s t) : Calm m s t.expirePeriod := by
  unfold State.expirePeriod
  exact h.requestSnapshot.modReport _

theorem Calm.endWriteOut (h : Calm m s t) (faults) : Calm m s (t.endWriteOut faults) :=
  have done := (h.modReport fun e => { e with writeOut := .idle }).offer _
  .ite (done.modReport _).startSnapshot done

theorem Calm.advanceHead (h : Calm m s t) : Calm m s t.advanceHead := by
  unfold State.advanceHead
  exact h.modReport _

theorem Calm.completeReport (h : Calm m s t) (x fault) : Calm m s (t.completeReport x fault) := by
  cases x with
  | headWord => exact .ite h (h.modReport _)
  | snapshotPart n =>
    simp only [State.completeReport, State.completePart]
    split
    · exact h
    · exact .ite (h.endWriteOut _) (h.modReport _)
  | dropped c => exact .ite (h.modReport _) h.advanceHead
  | record => exact .ite (h.modReport _) h.advanceHead

theorem Calm.writeTailWord (h : Calm m s t) (offset w) : Calm m s (t.writeTailWord offset w) := by
  unfold State.writeTailWord
  split
  · exact h
  · exact .ite (.ite (h.modReport _) (h.raise _)) (.ite (h.raise _) h)

theorem Calm.endTry (h : Calm m s t) (j) : Calm m s (t.endTry j) :=
  .ite ((Calm.publicationStep (h.modVerify _) j.ring _).modVerify _)
    (.ite ((h.count j.ring _).modVerify _) ((h.damage j.ring _ _).modVerify _))

theorem Calm.applyVerifyRead (h : Calm m s t) (j q data) : Calm m s (t.applyVerifyRead j q data) :=
  .ite ((h.modVerify _).endTry j) (h.modVerify _)

theorem Calm.grantPassThrough (h : Calm m s t) : Calm m s t.grantPassThrough := by
  unfold State.grantPassThrough
  split
  · exact (h.modPort _).issue _
  · exact h

theorem Calm.grantVerify (h : Calm m s t) : Calm m s t.grantVerify := by
  unfold State.grantVerify
  split
  · exact (h.modVerify _).issue _
  · exact h

theorem Calm.grantReport (h : Calm m s t) : Calm m s t.grantReport := by
  unfold State.grantReport
  split
  · exact (h.modReport _).issue _
  · exact h

/-! ## Completions and commands that leave the rings' alignment -/

theorem Calm.completeEntry (h : Calm m s t) (e x) : Calm m s (t.completeEntry e x) := by
  have responded : Calm m s ((t.freeEntry e).respondCompleted e x) := by
    have freed : Calm m s (t.freeEntry e) := h.modPort _
    unfold State.respondCompleted
    split
    · exact freed.respond _ _ _ _
    · split <;> exact freed.respond _ _ _ _
  unfold State.completeEntry
  split
  · exact responded
  · exact responded.raise _

theorem Calm.settled (h : Calm m s t) (r index) : Calm m s (t.settled r index) :=
  .ite (h.publicationStep r index) (.ite (Calm.modVerify (h.modBerth _ _) _)
    (Calm.publicationStep (h.raise _) r index))

theorem Calm.lowerOutstanding (h : Calm m s t) (p) : Calm m s (t.lowerOutstanding p) := h.fillBerth p _

theorem Calm.trackedOkay (h : Calm m s t) (r index) : Calm m s (t.trackedOkay r index) := by
  have lowered := h.lowerOutstanding (t.poolIndex r index)
  unfold State.trackedOkay
  dsimp only
  split
  · exact lowered
  · exact .ite (lowered.settled r index) lowered
  · exact lowered
  all_goals exact h

theorem Calm.clearBerths (h : Calm m s t) (r) : Calm m s (t.clearBerths r) :=
  .foldl _ (fun _ _ hu => hu.modBerth _ _) _ h

theorem Calm.dropRingWork (h : Calm m s t) (r) : Calm m s (t.dropRingWork r) := (h.endHolds _ _).modVerify _

theorem Calm.clearRing (h : Calm m s t) (r) : Calm m s (t.clearRing r) :=
  ((h.dropRingWork r).clearBerths r).modRing r _

theorem Calm.refuseDisabled (h : Calm m s t) (a w) : Calm m s (t.refuseDisabled a w) := by
  have reported : Calm m s ((t.refuse w).reportDisabled a w) := .ite (h.refuse w) (((h.refuse w).raise _).setEpisode _)
  unfold State.refuseDisabled State.countDisabled
  split
  · exact reported.count _ _
  all_goals exact reported

theorem Calm.writeRange (h : Calm m s t) (n w) : Calm m s (t.writeRange n w) :=
  .ite (h.passWrite none w) ((h.refuse w).raise _)

theorem Calm.commandTaken (h : Calm m s t) (c) : Calm m s (t.commandTaken c) := .ite h (h.raise _)

theorem Calm.commandRefused (h : Calm m s t) (c x) : Calm m s (t.commandRefused c x) := h.raise _

end

end Sys2Proof.Machine
end

-- ==== Moves of one ring ====
section
/-! PROOFS. The operations that change a ring's alignment or operating state, or claim a berth. `RingMove r s t`: from s to t no run
and no load changes, only ring r changes its stand, a berth that becomes FILLING is one of ring r, and ring r keeps its
FILLING berth its current berth (R1, R10, R29). -/

namespace Sys2Proof.Machine

open Sys2Proof Sys2Proof.Config

/-- No berth of the ring is FILLING. -/
def State.noFilling (s : State) (r : RingId) : Prop :=
  ∀ i : Nat, i < s.rings[r].profile.berthCount → (s.ringBerth r i).state ≠ .filling

/-- A FILLING berth of the ring is its current berth. -/
def State.onlyCurrent (s : State) (r : RingId) : Prop :=
  ∀ i : Nat, i < s.rings[r].profile.berthCount → (s.ringBerth r i).state = .filling →
    s.rings[r].tracking.current = some i

/-- A FILLING berth of the ring is the current berth of an ACTIVE ring outside HUNT. -/
def State.filledWell (s : State) (r : RingId) : Prop :=
  ∀ i : Nat, i < s.rings[r].profile.berthCount → (s.ringBerth r i).state = .filling →
    s.rings[r].tracking.current = some i ∧ s.rings[r].opState = .active ∧ s.rings[r].tracking.align ≠ .hunt

theorem fillingIsCurrent_iff (s : State) : s.fillingIsCurrent ↔ ∀ r : RingId, s.isValid r → s.filledWell r :=
  ⟨fun h r hv i => h r i hv, fun h r i hv => h r hv i⟩

theorem State.filledWell.onlyCurrent {s : State} {r : RingId} (h : s.filledWell r) : s.onlyCurrent r :=
  fun i hi hf => (h i hi hf).1

theorem State.noFilling.filledWell {s : State} {r : RingId} (h : s.noFilling r) : s.filledWell r :=
  fun i hi hf => absurd hf (h i hi)

/-! ## Rings of the same layout -/

section

variable {s t : State} {r : RingId} (hl : t.rings[r].layout = s.rings[r].layout)

include hl

theorem profile_of_layout : t.rings[r].profile = s.rings[r].profile := congrArg (·.1) hl

theorem validity_of_layout : t.rings[r].validity = s.rings[r].validity := congrArg (·.2.2) hl

theorem poolBase_of_layout : t.rings[r].poolBase = s.rings[r].poolBase := congrArg (·.2.1.getD 0) hl

theorem poolIndex_of_layout (i : Nat) : t.poolIndex r i = s.poolIndex r i :=
  congrArg (· + i) (poolBase_of_layout hl)

theorem isValid_of_layout : t.isValid r ↔ s.isValid r := by
  rw [State.isValid, validity_of_layout hl]

theorem ringSound_of_layout : t.ringSound r ↔ s.ringSound r := by
  rw [State.ringSound, poolBase_of_layout hl, profile_of_layout hl]

end

section

variable {m : Set RingId} {s t u : State} {r : RingId}

/-- A calm change keeps a ring without FILLING berths so. -/
theorem Calm.noFilling (h : Calm m s t) (hn : s.noFilling r) : t.noFilling r := by
  intro i hi hf
  rw [profile_of_layout (h.layout r)] at hi
  rw [State.ringBerth, poolIndex_of_layout (h.layout r)] at hf
  exact hn i hi (h.filling _ hf)

theorem stand_eq {g g' : RingRecord} (h : g'.stand = g.stand) :
    g'.opState = g.opState ∧ g'.tracking.current = g.tracking.current ∧ g'.tracking.align = g.tracking.align :=
  ⟨congrArg (·.1) h, congrArg (·.2.1) h, congrArg (·.2.2) h⟩

/-- A calm change that leaves the ring's stand keeps its FILLING berth in order. -/
theorem Calm.filledWell (h : Calm m s t) (hr : r ∉ m) (hw : s.filledWell r) : t.filledWell r := by
  intro i hi hf
  obtain ⟨ho, hc, ha⟩ := stand_eq (h.stand r hr)
  rw [profile_of_layout (h.layout r)] at hi
  rw [State.ringBerth, poolIndex_of_layout (h.layout r)] at hf
  rw [ho, hc, ha]
  exact hw i hi (h.filling _ hf)

theorem Calm.onlyCurrent (h : Calm m s t) (hc : t.rings[r].tracking.current = s.rings[r].tracking.current)
    (ho : s.onlyCurrent r) : t.onlyCurrent r := by
  intro i hi hf
  rw [profile_of_layout (h.layout r)] at hi
  rw [State.ringBerth, poolIndex_of_layout (h.layout r)] at hf
  rw [hc]
  exact ho i hi (h.filling _ hf)

/-! ## Moves of one ring -/

/-- What an operation on ring r may do: see the head of this part. -/
structure RingMove (r : RingId) (s t : State) : Prop where
  layout : ∀ q : RingId, t.rings[q].layout = s.rings[q].layout
  load : t.control.load = s.control.load
  stand : ∀ q : RingId, q ≠ r → t.rings[q].stand = s.rings[q].stand
  filling : ∀ p : Nat, (t.berth p).state = .filling → (s.berth p).state = .filling ∨
    s.isValid r ∧ ∃ b, b < s.rings[r].profile.berthCount ∧ p = s.poolIndex r b
  kept : s.isValid r → s.ringSound r → s.filledWell r → t.filledWell r

theorem RingMove.trans (h : RingMove r s t) (h' : RingMove r t u) : RingMove r s u where
  layout q := (h'.layout q).trans (h.layout q)
  load := h'.load.trans h.load
  stand q hq := (h'.stand q hq).trans (h.stand q hq)
  filling p hp := by
    rcases h'.filling p hp with hf | ⟨hv, b, hb, e⟩
    · exact h.filling p hf
    · rw [isValid_of_layout (h.layout r)] at hv
      rw [profile_of_layout (h.layout r)] at hb
      rw [poolIndex_of_layout (h.layout r)] at e
      exact .inr ⟨hv, b, hb, e⟩
  kept hv hs hw := h'.kept ((isValid_of_layout (h.layout r)).mpr hv) ((ringSound_of_layout (h.layout r)).mpr hs)
    (h.kept hv hs hw)

theorem Calm.ringMove (h : Calm ∅ s t) (r : RingId) : RingMove r s t :=
  ⟨h.layout, h.load, fun q _ => h.stand q (Set.notMem_empty q), fun p hp => .inl (h.filling p hp),
    fun _ _ hw => h.filledWell (Set.notMem_empty r) hw⟩

theorem RingMove.refl (r : RingId) (s : State) : RingMove r s s := (Calm.refl ∅ s).ringMove r

theorem RingMove.calm (h : RingMove r s t) (h' : Calm ∅ t u) : RingMove r s u := h.trans (h'.ringMove r)

theorem RingMove.ite {c : Prop} [Decidable c] {a b : State} (ha : RingMove r s a) (hb : RingMove r s b) :
    RingMove r s (if c then a else b) := by
  split
  · exact ha
  · exact hb

/-- A change of ring r's stand that ends with no FILLING berth in the ring. -/
theorem Calm.ringMove_of_noFilling (h : Calm {r} s t) (hn : s.ringSound r → s.onlyCurrent r → t.noFilling r) : RingMove r s t :=
  ⟨h.layout, h.load, h.stand, fun p hp => .inl (h.filling p hp), fun _ hs hw => (hn hs hw.onlyCurrent).filledWell⟩

/-- A change of ring r's tracking that leaves its current berth, and leaves it outside HUNT. -/
theorem ringMove_aligned (s : State) (r : RingId) (f : Tracking → Tracking)
    (hf : ∀ k, (f k).current = k.current ∧ (f k).align ≠ .hunt) : RingMove r s (s.modTracking r f) := by
  have c : Calm {r} s (s.modTracking r f) := (Calm.refl _ s).modTracking r f (.inl (Set.mem_singleton r))
  refine ⟨c.layout, c.load, c.stand, fun p hp => .inl (c.filling p hp), fun _ _ hw i hi hf' => ?_⟩
  rw [profile_of_layout (c.layout r)] at hi
  rw [State.ringBerth, poolIndex_of_layout (c.layout r)] at hf'
  obtain ⟨hc, ho, -⟩ := hw i hi (c.filling _ hf')
  rw [State.modTracking, ring_modRing_same]
  exact ⟨(hf _).1.trans hc, ho, (hf _).2⟩

/-! ## Abandonment, return to HUNT, loss of lock, fault hold -/

/-- A damaged berth is not FILLING (R40). -/
theorem damage_notFilling (s : State) (r : RingId) (i : Nat) (cause : DamageCause) (hp : s.poolIndex r i < 2048) :
    ((s.damage r i cause).berth (s.poolIndex r i)).state ≠ .filling := by
  intro hf
  by_cases hd : (s.ringBerth r i).state = .damaged
  · unfold State.damage at hf
    dsimp only at hf
    rw [if_pos hd] at hf
    exact nomatch hd.symm.trans hf
  · have := (calm_damage_marked (m := ∅) s r i cause hd).filling _ hf
    rw [berth_modBerth_same _ _ _ hp] at this
    exact nomatch this

/-- An abandonment leaves no FILLING berth (R43). -/
theorem abandonCurrent_noFilling (s : State) (r : RingId) (hs : s.ringSound r) (hc : s.onlyCurrent r) :
    (s.abandonCurrent r).noFilling r := by
  have calm : Calm ∅ s (s.abandonCurrent r) := (Calm.refl _ s).abandonCurrent r
  intro i hi hf
  rw [profile_of_layout (calm.layout r)] at hi
  rw [State.ringBerth, poolIndex_of_layout (calm.layout r)] at hf
  have old := calm.filling _ hf
  have current : s.fillingCurrent r = some i := by
    simp only [State.fillingCurrent, hc i hi old]
    exact if_pos old
  rw [State.abandonCurrent, current] at hf
  have hb : s.poolIndex r i < 2048 := Nat.lt_of_lt_of_le (Nat.add_lt_add_left hi _) hs.1
  exact damage_notFilling s r i .abandoned hb hf

theorem ringMove_returnToHunt (s : State) (r : RingId) : RingMove r s (s.returnToHunt r) := by
  have toHunt : Calm {r} (s.abandonCurrent r) (s.returnToHunt r) := (Calm.refl _ _).modTracking r _ (.inl (Set.mem_singleton r))
  exact (((Calm.refl _ s).abandonCurrent r).trans toHunt).ringMove_of_noFilling fun hs ho =>
    toHunt.noFilling (abandonCurrent_noFilling s r hs ho)

/-- Remembering the lock leaves the ring's stand (step 1 of R30). -/
theorem Calm.rememberLock (h : Calm m s t) (r : RingId) : Calm m s (t.modTracking r Tracking.rememberLock) :=
  h.modTracking r _ (.inr fun k => by unfold Tracking.rememberLock; split <;> exact ⟨rfl, rfl⟩)

theorem ringMove_loseLock (s : State) (r : RingId) (cause : LossCause) : RingMove r s (s.loseLock r cause) := by
  have remembered : Calm ∅ s (s.modTracking r Tracking.rememberLock) := (Calm.refl _ s).rememberLock r
  have hunting : Calm {r} ((s.modTracking r Tracking.rememberLock).abandonCurrent r) (s.loseLock r cause) :=
    (((((((Calm.refl _ _).publishAllStaged r).toSearch r).endHolds true _).modTracking r _ (.inl (Set.mem_singleton r))).raise _).count r _)
  refine (remembered.ringMove r).trans ((((Calm.refl _ _).abandonCurrent r).trans hunting).ringMove_of_noFilling fun hs ho =>
    hunting.noFilling (abandonCurrent_noFilling _ r hs ho))

theorem ringMove_faultHold (s : State) (r : RingId) (cause : ReportKind) (index : Nat) (initiator : Byte) :
    RingMove r s (s.faultHold r cause index initiator) := by
  unfold State.faultHold
  dsimp only
  refine .ite ?_ (RingMove.refl r s)
  have held : Calm {r} s (s.modRing r fun g => { g with opState := .faultHeld }) := (Calm.refl _ s).modRing r _
    (hs := .inl (Set.mem_singleton r))
  have closed := fun which c => ((((Calm.refl {r} ((s.modRing r fun g => { g with opState := .faultHeld }).abandonCurrent r)
    ).publishAllStaged r).endHolds true which).modTracking r (fun k => { k with quietTimer := none })).raise c
  refine ((held.abandonCurrent r).trans (closed _ _)).ringMove_of_noFilling fun hs ho => (closed _ _).noFilling ?_
  refine abandonCurrent_noFilling _ r ((ringSound_of_layout (held.layout r)).mpr hs) (held.onlyCurrent ?_ ho)
  rw [ring_modRing_same]

/-! ## Seals -/

theorem ringMove_watchExcess (s : State) (r : RingId) : RingMove r s (s.watchExcess r) :=
  .ite (ringMove_loseLock s r _) (RingMove.refl r s)

theorem ringMove_seal (s : State) (r : RingId) (index : Nat) : RingMove r s (s.seal r index) := by
  have failed : RingMove r s (((s.count r .checkErrors).damage r index .checkError).clearQuietFlag r) :=
    ((((Calm.refl ∅ s).count r .checkErrors).damage r index .checkError).clearQuietFlag r).ringMove r
  exact .ite ((((Calm.refl ∅ s).damage r index .tailError).clearQuietFlag r).ringMove r)
    (.ite (failed.trans (ringMove_watchExcess _ r))
      (((((Calm.refl ∅ s).modBerth _ _).count r _).clearQuietFlag r).debounceCode r index _ |>.ringMove r))

theorem ringMove_sealIfComplete (s : State) (r : RingId) (index : Nat) : RingMove r s (s.sealIfComplete r index) := by
  unfold State.sealIfComplete
  dsimp only
  split
  · exact .ite (ringMove_seal s r index) (RingMove.refl r s)
  · exact RingMove.refl r s

/-! ## Claims -/

/-- Ring r, ACTIVE and outside HUNT, may claim its berth b. -/
def State.mayClaim (s : State) (r : RingId) (b : Nat) : Prop :=
  s.isValid r ∧ s.rings[r].opState = .active ∧ s.rings[r].tracking.align ≠ .hunt ∧ b < s.rings[r].profile.berthCount

theorem Calm.mayClaim {b : Nat} (h : Calm ∅ s t) (hm : s.mayClaim r b) : t.mayClaim r b := by
  obtain ⟨ho, -, ha⟩ := stand_eq (h.stand r (Set.notMem_empty r))
  obtain ⟨hv, hact, hal, hb⟩ := hm
  refine ⟨(isValid_of_layout (h.layout r)).mpr hv, ho.trans hact, ?_, ?_⟩
  · rwa [ha]
  · rwa [profile_of_layout (h.layout r)]

/-- The fields of a claim: the abandonment leaves no FILLING berth, and the berth claimed becomes the current one (R41). -/
theorem ringMove_claimFields (s : State) (r : RingId) (c : Claim) (writer : Initiator) (hm : s.mayClaim r c.berth) :
    RingMove r s (((s.abandonCurrent r).modBerth (s.poolIndex r c.berth) (Berth.claimed c writer)).modRing r
      (RingRecord.claimed c)) := by
  have calm : Calm ∅ s (s.abandonCurrent r) := (Calm.refl _ s).abandonCurrent r
  obtain ⟨hv, hact, hal, hb⟩ := calm.mayClaim hm
  have ring (q : RingId) (hq : q ≠ r) : (((s.abandonCurrent r).modBerth (s.poolIndex r c.berth)
      (Berth.claimed c writer)).modRing r (RingRecord.claimed c)).rings[q] = (s.abandonCurrent r).rings[q] := by
    rw [ring_modRing_other _ _ _ _ hq, rings_modBerth]
  have layout : ∀ q : RingId, (((s.abandonCurrent r).modBerth (s.poolIndex r c.berth)
      (Berth.claimed c writer)).modRing r (RingRecord.claimed c)).rings[q].layout = s.rings[q].layout := by
    intro q
    by_cases e : q = r
    · rw [e, ring_modRing_same, rings_modBerth]
      exact calm.layout r
    · rw [ring q e]
      exact calm.layout q
  have filling : ∀ p : Nat, ((((s.abandonCurrent r).modBerth (s.poolIndex r c.berth)
      (Berth.claimed c writer)).modRing r (RingRecord.claimed c)).berth p).state = .filling →
      p = s.poolIndex r c.berth ∨ ((s.abandonCurrent r).berth p).state = .filling := by
    intro p hp
    by_cases e : p = s.poolIndex r c.berth
    · exact .inl e
    · rw [berth_modRing, berth_modBerth_other _ _ _ _ e] at hp
      exact .inr hp
  refine ⟨layout, ?_, fun q hq => ?_, fun p hp => ?_, fun _ hs hw i hi hf => ?_⟩
  · rw [control_modRing, control_modBerth]
    exact calm.load
  · rw [ring q hq]
    exact calm.stand q (Set.notMem_empty q)
  · rcases filling p hp with e | hf
    · exact .inr ⟨hm.1, c.berth, hm.2.2.2, e⟩
    · exact .inl (calm.filling p hf)
  · rw [State.ringBerth, poolIndex_of_layout (layout r)] at hf
    rw [profile_of_layout (layout r)] at hi
    have e : i = c.berth := by
      rcases filling _ hf with e | hf'
      · exact Nat.add_left_cancel e
      · rw [← poolIndex_of_layout (calm.layout r)] at hf'
        rw [← profile_of_layout (calm.layout r)] at hi
        exact absurd hf' (abandonCurrent_noFilling s r hs hw.onlyCurrent i hi)
    rw [ring_modRing_same, rings_modBerth, e]
    exact ⟨rfl, hact, hal⟩

theorem ringMove_judgeClaim (s : State) (r : RingId) (c : Claim) : RingMove r s (s.judgeClaim r c) := by
  unfold State.judgeClaim
  split
  · exact ((Calm.refl ∅ s).damage r c.berth _).ringMove r
  · exact .ite (((Calm.refl ∅ s).damage r c.berth _).ringMove r) (ringMove_sealIfComplete s r c.berth)

theorem ringMove_claim (s : State) (r : RingId) (c : Claim) (w : WriteTx) (hm : s.mayClaim r c.berth) :
    RingMove r s (s.claim r c w) := by
  have fields := ringMove_claimFields s r c w.initiator hm
  have counted := RingMove.ite (c := c.reclaimed) fields (fields.calm ((Calm.refl ∅ _).occupancyUp r))
  exact ((counted.calm ((Calm.refl ∅ _).trackWrite r c.berth 0 w)).trans (ringMove_judgeClaim _ r c)).calm
    ((Calm.refl ∅ _).groupTest r)

/-! ## Starts -/

/-- The overrun policy comes to a judgment after changes that leave the ring's stand (R55, R57). -/
theorem ringMove_overrun (s : State) (r : RingId) (index : Nat) (w : WriteTx) (j : Bool → State → State)
    (hj : ∀ b u, Calm ∅ s u → RingMove r u (j b u)) : RingMove r s (s.overrun r index w j) := by
  unfold State.overrun
  dsimp only
  split
  · exact hj false s (Calm.refl ∅ s)
  · have counted : Calm ∅ s (s.count r .overruns) := (Calm.refl ∅ s).count r _
    split
    · exact (counted.refuseInWindow r _ w).ringMove r
    · have taken := counted.reclaim r index w.initiator
      exact (taken.ringMove r).trans (hj true _ taken)

/-- A producer's write falls on berth b of ring r, which is ACTIVE. -/
def State.writesBerth (s : State) (r : RingId) (b : Nat) : Prop :=
  s.isValid r ∧ s.rings[r].opState = .active ∧ b < s.rings[r].profile.berthCount

theorem State.writesBerth.mayClaim {b : Nat} (h : s.writesBerth r b) (ha : s.rings[r].tracking.align ≠ .hunt) :
    s.mayClaim r b := ⟨h.1, h.2.1, ha, h.2.2⟩

theorem Calm.writesBerth {b : Nat} (h : Calm ∅ s t) (hw : s.writesBerth r b) : t.writesBerth r b := by
  obtain ⟨ho, -, -⟩ := stand_eq (h.stand r (Set.notMem_empty r))
  refine ⟨(isValid_of_layout (h.layout r)).mpr hw.1, ho.trans hw.2.1, ?_⟩
  rw [profile_of_layout (h.layout r)]
  exact hw.2.2

/-- A change of tracking fields leaves where a write falls. -/
theorem State.writesBerth.modTracking {b : Nat} (h : s.writesBerth r b) (f : Tracking → Tracking) :
    (s.modTracking r f).writesBerth r b := by
  rw [State.writesBerth, State.isValid, State.modTracking, ring_modRing_same]
  exact h

theorem ringMove_candidateStart (s : State) (r : RingId) (index : Nat) (l : Lead) (w : WriteTx) (reclaimed : Bool)
    (hw : s.writesBerth r index) : RingMove r s (s.candidateStart r index l w reclaimed) := by
  unfold State.candidateStart
  refine (ringMove_aligned s r _ ?_).trans (ringMove_claim _ r _ w ((hw.modTracking _).mayClaim ?_))
  · exact fun _ => ⟨rfl, nofun⟩
  · rw [tracking_modTracking]
    exact nofun

theorem ringMove_startInHunt (s : State) (r : RingId) (index : Nat) (w : WriteTx) (hw : s.writesBerth r index) :
    RingMove r s (s.startInHunt r index w) := by
  unfold State.startInHunt
  split
  · exact ringMove_overrun s r index w _ fun b u hu => ringMove_candidateStart u r index _ w b (hu.writesBerth hw)
  · exact ((Calm.refl ∅ s).writeInHunt r index w).ringMove r

/-- Reaching LOCKED, past the change of the alignment state, only raises records (R20, R31). -/
theorem calm_acquireLock (s : State) (r : RingId) (b : Nat) (q : Seq) (producer : Initiator) :
    Calm ∅ (s.modTracking r fun t => { t with align := .locked, errorCount := 0 }) (s.acquireLock r b q producer) := by
  unfold State.acquireLock
  dsimp only
  have locked := fun c => (Calm.refl ∅ (s.modTracking r fun t => { t with align := .locked, errorCount := 0 })).raise c
  split
  · exact locked _
  · exact .ite (locked _) ((locked _).raise _)

theorem ringMove_confirmingStart (s : State) (r : RingId) (index : Nat) (l : Lead) (w : WriteTx) (reclaimed : Bool)
    (hm : s.mayClaim r index) : RingMove r s (s.confirmingStart r index l w reclaimed) := by
  have progressed : Calm ∅ s (s.modTracking r fun t => { t with confirmProgress := t.confirmProgress + 1 }) :=
    (Calm.refl ∅ s).modTracking r _
  have hp := progressed.mayClaim hm
  refine .ite ?_ ((progressed.ringMove r).trans (ringMove_claim _ r _ w hp))
  have locked := calm_acquireLock (s.modTracking r fun t => { t with confirmProgress := t.confirmProgress + 1 })
    r index l.seq w.initiator
  have aligned := (progressed.ringMove r).trans (ringMove_aligned _ r (fun t => { t with align := .locked, errorCount := 0 })
    fun _ => ⟨rfl, nofun⟩)
  have writes : State.writesBerth _ r index :=
    State.writesBerth.modTracking ⟨hp.1, hp.2.1, hp.2.2.2⟩ fun t => { t with align := .locked, errorCount := 0 }
  have may := locked.mayClaim (writes.mayClaim (by rw [tracking_modTracking]; exact nofun))
  exact ((aligned.calm locked).trans (ringMove_claim _ r _ w may)).calm ((Calm.refl ∅ _).examine r _)

/-- A return to HUNT leaves where a write falls. -/
theorem State.writesBerth.returnToHunt {b : Nat} (h : s.writesBerth r b) : (s.returnToHunt r).writesBerth r b :=
  (((Calm.refl ∅ s).abandonCurrent r).writesBerth h).modTracking _

theorem ringMove_startInConfirm (s : State) (r : RingId) (index : Nat) (w : WriteTx) (hw : s.writesBerth r index)
    (ha : s.rings[r].tracking.align ≠ .hunt) : RingMove r s (s.startInConfirm r index w) := by
  have hunt := (ringMove_returnToHunt s r).trans (ringMove_startInHunt _ r index w hw.returnToHunt)
  unfold State.startInConfirm
  split
  · exact .ite (ringMove_overrun s r index w _ fun b u hu =>
      ringMove_confirmingStart u r index _ w b (hu.mayClaim (hw.mayClaim ha))) hunt
  · exact hunt

theorem ringMove_loseLockAtThird (s : State) (r : RingId) : RingMove r s (s.loseLockAtThird r) :=
  .ite (ringMove_loseLock s r _) (RingMove.refl r s)

/-- An alignment error leaves the ring's stand (R28). -/
theorem Calm.alignmentError (h : Calm m s t) (r : RingId) : Calm m s (t.modTracking r Tracking.alignmentError) :=
  h.modTracking r _

theorem ringMove_goodStart (s : State) (r : RingId) (index : Nat) (l : Lead) (w : WriteTx) (reclaimed : Bool)
    (hm : s.mayClaim r index) : RingMove r s (s.goodStart r index l w reclaimed) := by
  have good : Calm ∅ s (s.modTracking r fun t => { t with errorCount := 0 }) := (Calm.refl ∅ s).modTracking r _
  exact ((good.ringMove r).trans (ringMove_claim _ r _ w (good.mayClaim hm))).calm ((Calm.refl ∅ _).examine r _)

theorem ringMove_breakStart (s : State) (r : RingId) (index : Nat) (l : Lead) (w : WriteTx) (reclaimed : Bool)
    (hm : s.mayClaim r index) : RingMove r s (s.breakStart r index l w reclaimed) := by
  have erred : Calm ∅ s (s.modTracking r (Tracking.breakError s.rings[r].profile.lockRule)) :=
    (Calm.refl ∅ s).modTracking r _ (.inr fun k => by unfold Tracking.breakError; split <;> exact ⟨rfl, rfl⟩)
  have reported := fun c => (erred.raise c).count r .sequenceBreaks
  unfold State.breakStart
  refine RingMove.trans (RingMove.calm (RingMove.trans ?_ (ringMove_claim _ r _ w ?_)) ((Calm.refl ∅ _).examine r _))
    (ringMove_loseLockAtThird _ r)
  · exact (reported _).ringMove r
  · exact (reported _).mayClaim hm

theorem ringMove_leadErrorStart (s : State) (r : RingId) (index : Nat) (w : WriteTx) (reclaimed : Bool)
    (hm : s.mayClaim r index) : RingMove r s (s.leadErrorStart r index w reclaimed) := by
  have counted := ((Calm.refl ∅ s).alignmentError r).count r .leadErrors
  unfold State.leadErrorStart
  refine RingMove.trans (RingMove.calm (RingMove.trans ?_ (ringMove_claim _ r _ w ?_)) ((Calm.refl ∅ _).examine r _))
    (ringMove_loseLockAtThird _ r)
  · exact counted.ringMove r
  · exact counted.mayClaim hm

theorem ringMove_slip (s : State) (r : RingId) (index : Nat) (w : WriteTx) : RingMove r s (s.slip r index w) :=
  (((((Calm.refl ∅ s).passWrite none w).alignmentError r).raise _).count r _ |>.ringMove r).trans (ringMove_loseLockAtThird _ r)

theorem ringMove_liveStart (s : State) (r : RingId) (index : Nat) (w : WriteTx) : RingMove r s (s.liveStart r index w) :=
  ((((Calm.refl ∅ s).alignmentError r).refuseInWindow r _ w).ringMove r).trans (ringMove_loseLockAtThird _ r)

theorem ringMove_startInLocked (s : State) (r : RingId) (index : Nat) (w : WriteTx) (hm : s.mayClaim r index) :
    RingMove r s (s.startInLocked r index w) := by
  unfold State.startInLocked
  dsimp only
  split
  · split
    · exact .ite (ringMove_overrun s r index w _ fun b u hu => ringMove_goodStart u r index _ w b (hu.mayClaim hm))
        (ringMove_overrun s r index w _ fun b u hu => ringMove_breakStart u r index _ w b (hu.mayClaim hm))
    · exact ringMove_overrun s r index w _ fun b u hu => ringMove_leadErrorStart u r index w b (hu.mayClaim hm)
  · exact .ite (ringMove_slip s r index w) (ringMove_liveStart s r index w)

theorem ringMove_start (s : State) (r : RingId) (index : Nat) (w : WriteTx) (hw : s.writesBerth r index) :
    RingMove r s (s.start r index w) := by
  unfold State.start
  split
  · exact ringMove_startInHunt s r index w hw
  · next ha => exact ringMove_startInConfirm s r index w hw (by rw [ha]; exact nofun)
  · next ha => exact ringMove_startInLocked s r index w (hw.mayClaim (by rw [ha]; exact nofun))

/-! ## Writes into a window -/

theorem ringMove_continuation (s : State) (r : RingId) (index offset : Nat) (w : WriteTx) :
    RingMove r s (s.continuation r index offset w) := by
  have passed : Calm ∅ s (s.passWrite none w) := (Calm.refl ∅ s).passWrite none w
  have refused : Calm ∅ s (s.refuseLive r index w) := (Calm.refl ∅ s).refuseLive r index w
  have current : RingMove r s (s.continueCurrent r index offset w) := by
    unfold State.continueCurrent
    dsimp only
    split
    · exact .ite ((((Calm.refl ∅ s).trackWrite r index offset w).ringMove r).trans (ringMove_sealIfComplete _ r index))
        ((passed.damage r index _).ringMove r)
    · exact passed.ringMove r
    · exact passed.ringMove r
    all_goals exact refused.ringMove r
  exact .ite (((Calm.refl ∅ s).writeInHunt r index w).ringMove r) (.ite current (.ite (refused.ringMove r) (passed.ringMove r)))

theorem ringMove_producerWrite (s : State) (r : RingId) (index offset : Nat) (w : WriteTx) (hw : s.writesBerth r index) :
    RingMove r s (s.producerWrite r index offset w) :=
  .ite ((((Calm.refl ∅ s).refuseInWindow r _ w).ringMove r).trans (ringMove_faultHold _ r _ index _))
    (.ite (ringMove_start s r index w hw) (ringMove_continuation s r index offset w))

theorem ringMove_writeWindow (s : State) (r : RingId) (index offset : Nat) (w : WriteTx) (hv : s.isValid r)
    (hb : index < s.rings[r].profile.berthCount) : RingMove r s (s.writeWindow r index offset w) := by
  unfold State.writeWindow
  split
  · exact ((Calm.refl ∅ s).passWrite none w).ringMove r
  · exact (((Calm.refl ∅ s).refuse w).count r _).ringMove r
  · next ha =>
    exact .ite (ringMove_producerWrite s r index offset w ⟨hv, ha, hb⟩)
      ((((Calm.refl ∅ s).refuseInWindow r _ w).ringMove r).trans (ringMove_faultHold _ r _ index _))

/-! ## Ring commands -/

/-- A DISABLED ring has no FILLING berth, so it may be enabled (R4). -/
theorem ringMove_enable (s : State) (r : RingId) (hd : s.rings[r].opState = .disabled) : RingMove r s (s.enableRing r) := by
  have c : Calm {r} s (s.enableRing r) := (Calm.refl _ s).modRing r _ (hs := .inl (Set.mem_singleton r))
  refine ⟨c.layout, c.load, c.stand, fun p hp => .inl (c.filling p hp), fun _ _ hw => ?_⟩
  refine (c.noFilling fun i hi hf => ?_).filledWell
  exact nomatch hd.symm.trans (hw i hi hf).2.1

end

end Sys2Proof.Machine
end

-- ==== Every step keeps the runs and the FILLING berths ====
section
/-! PROOFS. Every step keeps the runs of the pool in order and each ring's FILLING berth its current one: what a ring command
clears, what a load commits, what an event does, and the two step lemmas (R5, R7, R10, R29, R154). -/

namespace Sys2Proof.Machine

open Sys2Proof Sys2Proof.Config

/-! ## What a clear and a commit leave of the rings and the pool -/

/-- Clearing the first n berths of a ring's run, in order (R5). -/
theorem berth_foldl_cleared (s : State) (r : RingId) (n : Nat) (hn : s.rings[r].poolBase + n ≤ 2048) (p : Nat) :
    ((List.range n).foldl (fun u i => u.modBerth (u.poolIndex r i) Berth.cleared) s).rings = s.rings ∧
    ((List.range n).foldl (fun u i => u.modBerth (u.poolIndex r i) Berth.cleared) s).berth p =
      if s.rings[r].poolBase ≤ p ∧ p < s.rings[r].poolBase + n then (s.berth p).cleared else s.berth p := by
  induction n with
  | zero => exact ⟨rfl, by rw [if_neg (by omega)]; rfl⟩
  | succ n ih =>
    obtain ⟨hr, hb⟩ := ih (by omega)
    rw [List.range_succ, List.foldl_append, List.foldl_cons, List.foldl_nil]
    refine ⟨(rings_modBerth _ _ _).trans hr, ?_⟩
    have index : ((List.range n).foldl (fun u i => u.modBerth (u.poolIndex r i) Berth.cleared) s).poolIndex r n =
        s.rings[r].poolBase + n := by
      rw [State.poolIndex, hr]
      rfl
    rw [index]
    by_cases e : p = s.rings[r].poolBase + n
    · rw [e, berth_modBerth_same _ _ _ (by omega), ← e, hb, if_neg (by omega), if_pos (by omega)]
    · rw [berth_modBerth_other _ _ _ _ e, hb]
      congr 1
      apply propext
      omega

/-- The berths of a cleared ring are FREE, one generation on; the others stay (R5). -/
theorem berth_clearBerths (s : State) (r : RingId) (hs : s.rings[r].poolBase + s.rings[r].profile.berthCount ≤ 2048)
    (p : Nat) : (s.clearBerths r).berth p =
      if s.rings[r].poolBase ≤ p ∧ p < s.rings[r].poolBase + s.rings[r].profile.berthCount then (s.berth p).cleared
      else s.berth p := (berth_foldl_cleared s r _ hs p).2

theorem dropRingWork_spec (s : State) (r : RingId) : (s.dropRingWork r).rings = s.rings ∧ (s.dropRingWork r).pool = s.pool := by
  obtain ⟨c, hc, -⟩ := endHolds_spec s false fun h => h.ring == r
  rw [State.dropRingWork, hc]
  exact ⟨rfl, rfl⟩

/-- A clear leaves no FILLING berth in the ring (R5). -/
theorem clearRing_noFilling (s : State) (r : RingId) (hs : s.ringSound r) : (s.clearRing r).noFilling r := by
  refine Calm.noFilling (m := ∅) (s := (s.dropRingWork r).clearBerths r)
    ((Calm.refl _ _).modRing r _) fun i hi => ?_
  have calm : Calm ∅ s ((s.dropRingWork r).clearBerths r) := ((Calm.refl _ s).dropRingWork r).clearBerths r
  rw [profile_of_layout (calm.layout r)] at hi
  rw [State.ringBerth, poolIndex_of_layout (calm.layout r)]
  have rings : (s.dropRingWork r).rings = s.rings := (dropRingWork_spec s r).1
  rw [berth_clearBerths _ r (by rw [rings]; exact hs.1), rings, if_pos]
  · exact nofun
  · exact ⟨Nat.le_add_right _ _, Nat.add_lt_add_left hi _⟩

/-- An operation on each ring of a list in turn changes each ring once. -/
theorem ring_foldl {g : State → RingId → State} (F : RingId → RingRecord → RingRecord)
    (same : ∀ s r, (g s r).rings[r] = F r s.rings[r]) (other : ∀ s r (q : RingId), q ≠ r → (g s r).rings[q] = s.rings[q])
    (l : List RingId) (hl : l.Nodup) (s : State) (q : RingId) :
    (l.foldl g s).rings[q] = if q ∈ l then F q s.rings[q] else s.rings[q] := by
  induction l generalizing s with
  | nil => rfl
  | cons a l ih =>
    obtain ⟨ha, hl⟩ := List.nodup_cons.mp hl
    rw [List.foldl_cons, ih hl]
    by_cases e : q = a
    · subst e
      rw [if_neg ha, if_pos List.mem_cons_self, same]
    · rw [other s a q e]
      simp only [List.mem_cons, e, false_or]

/-- An operation on all rings changes each once. -/
theorem ring_foldl_allRings {g : State → RingId → State} (F : RingId → RingRecord → RingRecord)
    (same : ∀ s r, (g s r).rings[r] = F r s.rings[r]) (other : ∀ s r (q : RingId), q ≠ r → (g s r).rings[q] = s.rings[q])
    (s : State) (q : RingId) : (allRings.foldl g s).rings[q] = F q s.rings[q] := by
  rw [ring_foldl F same other allRings (by decide), if_pos (by revert q; decide)]

/-- What a fold leaves that each of its steps leaves. -/
theorem foldl_keeps {α β : Type} (v : State → β) (g : State → α → State) (h : ∀ s a, v (g s a) = v s) (l : List α)
    (s : State) : v (l.foldl g s) = v s := by
  induction l generalizing s with
  | nil => rfl
  | cons a l ih => rw [List.foldl_cons, ih, h]

/-- The rings at a commit (step 2 of R154). -/
theorem ring_commitRings (s : State) (l : Load) (q : RingId) :
    (s.commitRings l).rings[q] = RingRecord.committed l.image q l.verdict[q] := by
  unfold State.commitRings
  dsimp only
  exact ring_foldl_allRings (g := fun s r => s.modRing r fun _ => RingRecord.committed l.image r l.verdict[r])
    (fun r _ => RingRecord.committed l.image r l.verdict[r]) (fun s r => ring_modRing_same s r _)
    (fun s r q h => ring_modRing_other s r q _ h) _ q

/-- Every pool record is cleared at a commit (step 2 of R154). -/
theorem pool_commitRings (s : State) (l : Load) : (s.commitRings l).pool = s.pool.map Berth.cleared := by
  unfold State.commitRings
  dsimp only
  rw [foldl_keeps State.pool _ (fun s r => pool_modRing s r _),
    foldl_keeps State.pool _ (fun s r => (dropRingWork_spec s r).2)]

/-- A ring once a load is committed (steps 2 and 5 of R154). -/
def Load.ringAfter (l : Load) (r : RingId) : RingRecord :=
  if l.enables r then (RingRecord.committed l.image r l.verdict[r]).enabled
  else RingRecord.committed l.image r l.verdict[r]

/-- A commit up to its LOAD_DONE: what precedes the enables. -/
def State.committedTo (l : Load) (s : State) : State :=
  ((((s.commitDevice (deviceOf l.image)).commitRings l).modReport ReportEngine.restarted).modControl fun c =>
    { c with attention := false }).raiseLoadDone l

theorem commit_eq (s : State) (l : Load) :
    s.commit l = allRings.foldl (fun s r => if l.enables r then s.enableRing r else s) (s.committedTo l) := rfl

theorem ring_committedTo (s : State) (l : Load) (r : RingId) :
    (s.committedTo l).rings[r] = RingRecord.committed l.image r l.verdict[r] := by
  rw [State.committedTo, State.raiseLoadDone, rings_raise, rings_modControl, rings_modReport]
  exact ring_commitRings _ l r

theorem ring_commit (s : State) (l : Load) (r : RingId) : (s.commit l).rings[r] = l.ringAfter r := by
  rw [commit_eq, ring_foldl_allRings fun r g => if l.enables r then g.enabled else g, ring_committedTo]
  · rfl
  · intro u q
    split
    · exact ring_modRing_same u q _
    · rfl
  · intro u q p hp
    split
    · exact ring_modRing_other u q p _ hp
    · rfl

theorem pool_commit (s : State) (l : Load) : (s.commit l).pool = s.pool.map Berth.cleared := by
  rw [commit_eq, foldl_keeps State.pool _ (fun s r => by split <;> rfl), State.committedTo, State.raiseLoadDone, pool_raise,
    pool_modControl, pool_modReport, pool_commitRings]
  rfl

/-- Every berth is FREE after a commit, one generation on (step 2 of R154). -/
theorem berth_commit (s : State) (l : Load) (p : Nat) (hp : p < 2048) : (s.commit l).berth p = (s.berth p).cleared := by
  simp [State.berth, hp, pool_commit]

theorem berth_commit_state (s : State) (l : Load) (p : Nat) : ((s.commit l).berth p).state = .free := by
  by_cases hp : p < 2048
  · rw [berth_commit s l p hp]
    rfl
  · simp [State.berth, hp, Berth.free]

theorem control_commitRings (s : State) (l : Load) : (s.commitRings l).control = s.control := by
  unfold State.commitRings
  dsimp only
  rw [foldl_keeps State.control _ (fun s r => control_modRing s r _), foldl_keeps State.control _ fun s r => ?_]
  obtain ⟨c, hc, -⟩ := endHolds_spec s false fun h => h.ring == r
  rw [State.dropRingWork, hc]
  rfl

theorem load_commit (s : State) (l : Load) : (s.commit l).control.load = s.control.load := by
  rw [commit_eq, foldl_keeps State.control _ (fun s r => by split <;> rfl), State.committedTo, State.raiseLoadDone,
    control_raise, control_modControl, control_modReport, control_commitRings]
  rfl

/-! ## Loads in order -/

theorem Load.sound_begin (kind : LoadKind) : (Load.begin kind).sound :=
  ⟨fun _ => rfl, fun r o ho => by rw [show (Load.begin kind).verdict = noOffsets from rfl, noOffsets_get] at ho; cases ho⟩

/-- A load that has given no offsets is in order. -/
theorem Load.sound_of_noOffsets {l : Load} (h : l.verdict = noOffsets) : l.sound :=
  ⟨fun _ => h, fun r o ho => by rw [h, noOffsets_get] at ho; cases ho⟩

/-- A load whose result is decided, or that changes neither its verdict nor its image. -/
theorem Load.sound.of_same {l k : Load} (h : l.sound) (hv : k.verdict = l.verdict) (hi : k.image = l.image)
    (hr : k.result = none → l.result = none) : k.sound := by
  refine ⟨fun e => hv.trans (h.1 (hr e)), ?_⟩
  have := h.2
  rw [Load.verdictSound] at this ⊢
  rwa [hv, hi]

theorem Load.sound.takeRead {l : Load} (h : l.sound) (data : List Byte) : (l.takeRead data).sound := by
  cases hr : l.result with
  | none => exact Load.sound_of_noOffsets (h.1 hr)
  | some x => exact h.of_same rfl (by simp [Load.takeRead, hr]) id

theorem Load.sound.afterRead {l : Load} (h : l.sound) (ctlsel : BitVec 4) : (l.afterRead ctlsel).sound := by
  unfold Load.afterRead
  split
  · split
    · exact h.of_same rfl rfl id
    · exact h
  · split
    · unfold Load.judge
      split
      · exact ⟨nofun, verdictSound_validOffsets ctlsel _ rfl⟩
      · exact h.of_same rfl rfl nofun
    · exact h

/-! ## What keeps the invariants -/

/-- The change keeps the runs sound, and with them each ring's FILLING berth its current one. -/
structure Sound (s t : State) : Prop where
  runs : s.runsSound → t.runsSound
  filling : s.runsSound → s.fillingIsCurrent → t.fillingIsCurrent

section

variable {s t u : State}

theorem Sound.refl (s : State) : Sound s s := ⟨id, fun _ => id⟩

theorem Sound.trans (h : Sound s t) (h' : Sound t u) : Sound s u :=
  ⟨fun hs => h'.runs (h.runs hs), fun hs hf => h'.filling (h.runs hs) (h.filling hs hf)⟩

/-- Two berths of the same pool record, in valid rings of which the runs are apart, are of the same ring. -/
theorem ring_of_poolIndex (hs : s.runsSound) {q r : RingId} {i b : Nat} (hq : s.isValid q) (hr : s.isValid r)
    (hi : i < s.rings[q].profile.berthCount) (hb : b < s.rings[r].profile.berthCount)
    (e : s.poolIndex q i = s.poolIndex r b) : q = r := by
  by_contra hne
  have e' : s.rings[q].poolBase + i = s.rings[r].poolBase + b := e
  rcases hs.2.1 r q hne hr hq with h | h <;> omega

theorem runsSound_of_layout (hs : s.runsSound) (hl : ∀ q : RingId, t.rings[q].layout = s.rings[q].layout)
    (hload : ∀ l : Load, t.control.load = some l → l.sound) : t.runsSound := by
  refine ⟨fun r hv => (ringSound_of_layout (hl r)).mpr (hs.1 r ((isValid_of_layout (hl r)).mp hv)), fun r q hne hr hq => ?_,
    hload⟩
  rw [poolBase_of_layout (hl r), poolBase_of_layout (hl q), profile_of_layout (hl r), profile_of_layout (hl q)]
  exact hs.2.1 r q hne ((isValid_of_layout (hl r)).mp hr) ((isValid_of_layout (hl q)).mp hq)

theorem RingMove.sound {r : RingId} (h : RingMove r s t) : Sound s t := by
  refine ⟨fun hs => runsSound_of_layout hs h.layout (h.load ▸ hs.2.2), fun hs hf => ?_⟩
  rw [fillingIsCurrent_iff] at hf ⊢
  intro q hv
  rw [isValid_of_layout (h.layout q)] at hv
  by_cases e : q = r
  · subst e
    exact h.kept hv (hs.1 q hv) (hf q hv)
  · intro i hi hfi
    rw [profile_of_layout (h.layout q)] at hi
    rw [State.ringBerth, poolIndex_of_layout (h.layout q)] at hfi
    obtain ⟨ho, hc, ha⟩ := stand_eq (h.stand q e)
    rw [ho, hc, ha]
    rcases h.filling _ hfi with old | ⟨hr, b, hb, same⟩
    · exact hf q hv i hi old
    · exact absurd (ring_of_poolIndex hs hv hr hi hb same) e

theorem Calm.sound (h : Calm ∅ s t) : Sound s t := (h.ringMove 0).sound

/-- A change of the load alone, to one in order. -/
theorem sound_of_load (hr : t.rings = s.rings) (hp : t.pool = s.pool)
    (hl : s.runsSound → ∀ l : Load, t.control.load = some l → l.sound) : Sound s t := by
  have same : ∀ q : RingId, t.rings[q] = s.rings[q] := fun q => by rw [hr]
  refine ⟨fun hs => runsSound_of_layout hs (fun q => by rw [same q]) (hl hs), fun _ hf r i hv hi hfi => ?_⟩
  rw [State.isValid, same r] at hv
  rw [same r] at hi
  rw [State.ringBerth, State.poolIndex, same r, berth_congr s t _ hp] at hfi
  rw [same r]
  exact hf r i hv hi hfi

/-- A change of the load in progress that leaves it in order. -/
theorem sound_modLoad (s : State) (f : Load → Load) (hf : ∀ l : Load, l.sound → (f l).sound) : Sound s (s.modLoad f) := by
  refine sound_of_load rfl rfl fun hs l hl => ?_
  simp only [State.modLoad, State.modControl, Option.map_eq_some_iff] at hl
  obtain ⟨k, hk, rfl⟩ := hl
  exact hf k (hs.2.2 k hk)

/-! ## The end of a load -/

/-- A commit lays the rings' runs out by a sound verdict, and leaves every berth FREE (R7, R154). -/
theorem sound_commit (s : State) (l : Load) (hl : l.sound) : Sound s (s.commit l) := by
  have offset (r : RingId) (hv : (s.commit l).isValid r) :
      ∃ o, l.verdict[r] = some o ∧ (s.commit l).rings[r].poolBase = o ∧
        (s.commit l).rings[r].profile = ringProfileOf l.image r := by
    have valid : (s.commit l).rings[r].validity = if l.verdict[r].isSome then .valid else .invalid := by
      rw [ring_commit, Load.ringAfter]
      split <;> rfl
    cases ho : l.verdict[r] with
    | none =>
      rw [State.isValid, valid, ho] at hv
      exact nomatch hv
    | some o =>
      refine ⟨o, rfl, ?_⟩
      rw [ring_commit, Load.ringAfter, ho]
      split <;> exact ⟨rfl, rfl⟩
  refine ⟨fun hs => ⟨fun r hv => ?_, fun r q hne hr hq => ?_, ?_⟩, fun _ _ r i _ _ hf => ?_⟩
  · obtain ⟨o, ho, hb, hp⟩ := offset r hv
    obtain ⟨hsum, h1, h16, -⟩ := hl.2 r o ho
    rw [State.ringSound, hb, hp]
    exact ⟨hsum, h1, h16⟩
  · obtain ⟨o, ho, hb, hp⟩ := offset r hr
    obtain ⟨x, hx, hb', hp'⟩ := offset q hq
    rw [hb, hp, hb', hp']
    exact (hl.2 r o ho).2.2.2 q x hne hx
  · rw [load_commit]
    exact hs.2.2
  · exact nomatch (berth_commit_state s l _).symm.trans hf

theorem sound_endLoad (s : State) (l : Load) (hl : l.sound) : Sound s (s.endLoad l) := by
  have idle : Sound s (s.modControl fun c => { c with loadCount := c.loadCount + 1, unit := .idle, load := none }) :=
    sound_of_load rfl rfl fun _ _ => nofun
  have done (u : State) : Sound u (u.raiseReloadDone l.kind) := by
    unfold State.raiseReloadDone
    split
    · exact Sound.refl u
    · exact ((Calm.refl ∅ u).raise _).sound
  have reject (u : State) : Calm ∅ u (u.reject l) := by
    have owed : Calm ∅ u (if l.headWritten then u.modReport fun e => { e with headOwed := true } else u) :=
      .ite ((Calm.refl _ u).modReport _) (Calm.refl _ u)
    cases hk : l.kind with
    | startUp => simp only [State.reject, hk]; exact owed.modControl _
    | reload writer slot => simp only [State.reject, hk]; exact owed.raise _
  unfold State.endLoad
  refine idle.trans (Sound.trans ?_ (done _))
  split
  · exact sound_commit _ l hl
  · exact (reject _).sound

theorem sound_completeLoaderWrite (s : State) (x : LoaderStep) (fault : Bool) :
    Sound s (s.completeLoaderWrite x fault) := by
  unfold State.completeLoaderWrite
  cases hload : s.control.load with
  | none => exact Sound.refl s
  | some l =>
    cases x with
    | readBlock _ => exact Sound.refl s
    | headWord => exact sound_modLoad s _ fun k hk => hk.of_same rfl rfl (by unfold Load.headCompleted; cases fault <;> simp)
    | statusWord =>
      have completed : s.runsSound → (l.statusCompleted fault).sound := fun hs => by
        have hl := hs.2.2 l hload
        unfold Load.statusCompleted
        split
        · exact hl.of_same rfl rfl nofun
        · exact hl
      exact ⟨fun hs => (sound_endLoad s _ (completed hs)).runs hs, fun hs => (sound_endLoad s _ (completed hs)).filling hs⟩

/-! ## Commands -/

theorem sound_disable (s : State) (r : RingId) : Sound s ((s.clearRing r).modRing r RingRecord.disabled) := by
  have after : Calm {r} (s.clearRing r) ((s.clearRing r).modRing r RingRecord.disabled) :=
    (Calm.refl _ _).modRing r _ (hs := .inl (Set.mem_singleton r))
  exact ((((Calm.refl _ s).clearRing r).trans after).ringMove_of_noFilling fun hs _ =>
    after.noFilling (clearRing_noFilling s r hs)).sound

theorem sound_reset (s : State) (r : RingId) : Sound s ((s.clearRing r).enableRing r) := by
  have after : Calm {r} (s.clearRing r) ((s.clearRing r).enableRing r) :=
    (Calm.refl _ _).modRing r _ (hs := .inl (Set.mem_singleton r))
  exact ((((Calm.refl _ s).clearRing r).trans after).ringMove_of_noFilling fun hs _ =>
    after.noFilling (clearRing_noFilling s r hs)).sound

/-- A ring command that is taken: its validity check, then its effect. -/
theorem sound_ringEnable {r : RingId} (h : s.ringEnable r = .ok t) : Sound s t := by
  unfold State.ringEnable at h
  split at h
  · cases h
  · split at h
    · next hd => cases h; exact (ringMove_enable s r hd).sound
    all_goals cases h

theorem sound_ringDisable {r : RingId} (h : s.ringDisable r = .ok t) : Sound s t := by
  unfold State.ringDisable at h
  split at h
  · cases h
  · split at h
    all_goals cases h
    exact sound_disable s r

theorem sound_ringReset {r : RingId} (h : s.ringReset r = .ok t) : Sound s t := by
  unfold State.ringReset at h
  split at h
  · cases h
  · split at h
    all_goals cases h
    all_goals exact sound_reset s r

theorem sound_reframe {r : RingId} (h : s.reframe r = .ok t) : Sound s t := by
  unfold State.reframe at h
  split at h
  · cases h
  · split at h
    · cases h
    · cases h
    · split at h
      · cases h
      all_goals obtain rfl := Except.ok.inj h
      all_goals exact (ringMove_loseLock s r .command).sound

theorem sound_attach {r : RingId} {k : Byte} (h : s.attach r k = .ok t) : Sound s t := by
  unfold State.attach at h
  split at h
  · cases h
  · split at h
    · cases h
    · split at h
      · cases h
      · cases h
      · split at h
        · cases h; exact ((Calm.refl ∅ s).modSlot r _ _).sound
        · cases h

theorem sound_detach {r : RingId} {k : Byte} (h : s.detach r k = .ok t) : Sound s t := by
  unfold State.detach at h
  split at h
  · cases h
  · split at h
    · cases h
    · split at h
      · cases h
      all_goals
        split at h
        · cases h; exact ((Calm.refl ∅ s).detachSlot r _).sound
        · cases h

theorem sound_beginReload {c : CommandWord} (h : s.beginReload c = .ok t) : Sound s t := by
  unfold State.beginReload at h
  split at h
  · cases h
  · cases h
    refine sound_of_load rfl rfl fun _ l hl => ?_
    cases hl
    exact Load.sound_begin _

theorem sound_execute {c : CommandWord} (h : s.execute c = .ok t) : Sound s t := by
  unfold State.execute at h
  dsimp only at h
  split at h
  · exact sound_ringEnable h
  · exact sound_ringDisable h
  · exact sound_ringReset h
  · exact sound_reframe h
  · exact sound_attach h
  · exact sound_detach h
  · cases h; exact (Calm.refl ∅ s).requestSnapshot.sound
  · exact sound_beginReload h
  · cases h

theorem sound_command (s : State) (c : CommandWord) : Sound s (s.command c) := by
  have cleared : Calm ∅ s (s.modControl fun u => { u with attention := false }) := (Calm.refl _ s).modControl _
  unfold State.command
  dsimp only
  split
  · exact (cleared.commandRefused c _).sound
  · split
    · exact (cleared.commandRefused c _).sound
    · next h => exact (cleared.sound.trans (sound_execute h)).trans ((Calm.refl ∅ _).commandTaken c).sound

/-! ## Arrivals -/

theorem within_iff (a base size : Nat) : within a base size = true ↔ base ≤ a ∧ a < base + size := by
  simp [within]

/-- A window that holds the address is a valid ring's, and the berth one of its berths (R12, R13). -/
theorem classify_window {a : Addr} {r : RingId} {b o : Nat} (h : s.classify a = .window r b o) :
    s.isValid r ∧ b < s.rings[r].profile.berthCount := by
  unfold State.classify at h
  split at h
  · cases h
  · split at h
    · cases h
    · split at h
      · next q hq =>
        cases h
        have found := List.find?_some hq
        simp only [Bool.and_eq_true, beq_iff_eq, within_iff, RingProfile.windowSize] at found
        obtain ⟨hv, hlo, hhi⟩ := found
        exact ⟨hv, Nat.div_lt_of_lt_mul (by rw [Nat.mul_comm]; omega)⟩
      · split at h <;> cases h

theorem sound_routeWrite (s : State) (a : Area) (w : WriteTx)
    (ha : ∀ r b o, a = .window r b o → s.isValid r ∧ b < s.rings[r].profile.berthCount) :
    Sound s (s.routeWrite a w) := by
  have passed : Calm ∅ s (s.passWrite none w) := (Calm.refl _ s).passWrite none w
  cases a with
  | control offset =>
    have command : Sound s (if covers offset w.length 0x300 then (s.passWrite none w).command (commandOf offset w)
        else s.passWrite none w) := by
      split
      · exact passed.sound.trans (sound_command _ _)
      · exact passed.sound
    show Sound s (s.writeControl offset w)
    unfold State.writeControl
    split
    · exact ((Calm.refl _ s).writeCursorArea offset w).sound
    · split
      · exact (((Calm.refl _ s).refuse w).raise _).sound
      · unfold State.handOn
        dsimp only
        split
        · exact command.trans ((Calm.refl _ _).writeTailWord offset w).sound
        · exact command
  | window r b o => exact (ringMove_writeWindow s r b o w (ha r b o rfl).1 (ha r b o rfl).2).sound
  | range n => exact ((Calm.refl _ s).writeRange n w).sound
  | reportRing => exact passed.sound
  | plain => exact passed.sound

theorem sound_decide (s : State) (x : Transaction) : Sound s (s.decide x) := by
  cases x with
  | read t => exact (Calm.ite ((Calm.refl ∅ s).answer _ t) ((Calm.refl ∅ s).routeRead _ t)).sound
  | write w =>
    show Sound s (if s.malformed w.initiator w.tag w.address w.length then s.respond w.initiator w.tag .malformed []
      else s.judgeWrite w)
    unfold State.judgeWrite
    dsimp only
    split
    · exact ((Calm.refl ∅ s).respond _ _ _ _).sound
    · split
      · exact ((Calm.refl ∅ s).refuseDisabled _ w).sound
      · exact sound_routeWrite s _ w fun r b o e => classify_window e

theorem sound_grantTo (s : State) (x : Source) : Sound s (s.grantTo x) := by
  have last (u : State) : Sound u (u.modPort fun p => { p with lastGranted := x }) := ((Calm.refl ∅ u).modPort _).sound
  unfold State.grantTo
  refine Sound.trans ?_ (last _)
  cases x with
  | passThrough => exact (Calm.refl ∅ s).grantPassThrough.sound
  | verify => exact (Calm.refl ∅ s).grantVerify.sound
  | report => exact (Calm.refl ∅ s).grantReport.sound
  | loader =>
    show Sound s s.grantLoader
    unfold State.grantLoader
    split
    · split
      · refine (sound_modLoad s _ fun l hl => ?_).trans ((Calm.refl ∅ _).issue _).sound
        unfold Load.stepIssued
        split <;> exact hl.of_same rfl rfl id
      · exact Sound.refl s
    · exact Sound.refl s

theorem sound_grantAll (n : Nat) (s : State) : Sound s (State.grantAll n s) := by
  induction n generalizing s with
  | zero => exact Sound.refl s
  | succ n ih =>
    unfold State.grantAll
    split
    · exact (sound_grantTo s _).trans (ih _)
    · exact Sound.refl s

theorem sound_settleReleases (s t : State) : Sound t (s.settleReleases t) := ((Calm.refl ∅ t).settleReleases s).sound

theorem sound_arrive (s : State) (x : Transaction) : Sound s (s.arrive x) :=
  ((sound_grantAll _ s).trans (sound_decide _ x)).trans (sound_settleReleases _ _)

theorem sound_drain (n : Nat) (s : State) : Sound s (State.drain n s) := by
  induction n generalizing s with
  | zero => exact Sound.refl s
  | succ n ih =>
    unfold State.drain
    split
    · exact Sound.refl s
    · split
      · exact ((((Calm.refl ∅ s).modLink _).sound).trans (sound_arrive _ _)).trans (ih _)
      · exact Sound.refl s

theorem sound_drainLink (s : State) : Sound s s.drainLink := sound_drain _ s

theorem sound_entriesDue (s : State) : Sound s s.entriesDue := (Calm.refl ∅ s).enterReleases.sound.trans (sound_drainLink _)

theorem sound_due (s : State) : Sound s s.due := (sound_entriesDue s).trans (sound_grantAll _ _)

theorem sound_present (s : State) (x : Transaction) : Sound s (s.present x) :=
  ((sound_due s).trans ((Calm.refl ∅ _).modLink _).sound).trans (sound_drainLink _)

/-- An event keeps what its effect keeps. -/
theorem sound_event (s : State) (f : State → State) (hf : ∀ u, Sound u (f u)) : Sound s (s.event f) :=
  (((sound_due s).trans (hf _)).trans (sound_settleReleases _ _)).trans (sound_drainLink _)

/-! ## Completions -/

theorem sound_completePassThrough (x : MemResult) (s : State) : Sound s (s.completePassThrough x) := by
  unfold State.completePassThrough
  split
  · exact (Calm.ite ((Calm.refl ∅ s).retire.completeEntry _ x) (Calm.refl ∅ s)).sound
  · exact Sound.refl s

theorem ringMove_trackedFault (s : State) (r : RingId) (index : Nat) (writer : Initiator) :
    RingMove r s (s.trackedFault r index writer) := by
  have lowered := (Calm.refl ∅ s).lowerOutstanding (s.poolIndex r index)
  unfold State.trackedFault
  refine RingMove.trans (Calm.ringMove ?_ r) (ringMove_faultHold _ r _ index _)
  split
  · exact lowered.damage r index _
  · exact lowered.damage r index _
  · exact lowered
  all_goals exact Calm.refl ∅ s

theorem sound_completeTracked (s : State) (x : TrackTag) (writer : Initiator) (fault : Bool) :
    Sound s (s.completeTracked x writer fault) := by
  unfold State.completeTracked
  dsimp only
  split
  · split
    · exact (ringMove_trackedFault _ _ _ _).sound
    · exact ((Calm.refl ∅ _).trackedOkay _ _).sound
  · exact Sound.refl _

theorem sound_completeTrackedWrite (fault : Bool) (s : State) : Sound s (s.completeTrackedWrite fault) := by
  unfold State.completeTrackedWrite
  split
  · split
    · exact Sound.trans (Calm.sound ((Calm.refl ∅ s).retire.completeEntry _ _)) (sound_completeTracked _ _ _ fault)
    · exact Sound.refl s
  · exact Sound.refl s

theorem sound_completeVerify (s : State) (p : Nat) (generation : BitVec 8) (q : Request) (x : MemResult) :
    Sound s (s.completeVerify p generation q x) := by
  have lowered : Calm ∅ s (s.modVerify fun e => { e with outstanding := e.outstanding - 1 }) := (Calm.refl _ s).modVerify _
  unfold State.completeVerify
  dsimp only
  split
  · exact lowered.sound
  · split
    · split
      · exact (lowered.applyVerifyRead _ q _).sound
      · exact (((lowered.damage _ _ _).sound.trans (ringMove_faultHold _ _ _ _ _).sound).trans
          ((Calm.refl ∅ _).modVerify _).sound)
    · exact lowered.sound

theorem sound_completeVerifyRead (x : MemResult) (s : State) : Sound s (s.completeVerifyRead x) := by
  unfold State.completeVerifyRead
  split
  · split
    · refine Sound.trans ?_ (sound_completeVerify _ _ _ _ x)
      split
      · exact (Calm.refl ∅ s).retire.sound
      · exact ((Calm.refl ∅ s).retire.raise _).sound
    all_goals exact Sound.refl s
  · exact Sound.refl s

theorem sound_completeReportWrite (fault : Bool) (s : State) : Sound s (s.completeReportWrite fault) := by
  unfold State.completeReportWrite
  split
  · split
    · exact ((Calm.refl ∅ s).retire.completeReport _ fault).sound
    all_goals exact Sound.refl s
  · exact Sound.refl s

theorem sound_completeProfileRead (x : MemResult) (s : State) : Sound s (s.completeProfileRead x) := by
  unfold State.completeProfileRead
  split
  · refine (Calm.refl ∅ s).retire.sound.trans (sound_modLoad _ _ fun l hl => Load.sound.afterRead ?_ _)
    split
    · exact hl.takeRead _
    · exact hl.of_same rfl rfl nofun
  all_goals exact Sound.refl s

theorem sound_completeLoadWrite (fault : Bool) (s : State) : Sound s (s.completeLoadWrite fault) := by
  unfold State.completeLoadWrite
  split
  · exact Sound.refl s
  · exact (Calm.refl ∅ s).retire.sound.trans (sound_completeLoaderWrite _ _ fault)
  · exact (Calm.refl ∅ s).retire.sound.trans (sound_completeLoaderWrite _ _ fault)
  · exact Sound.refl s

/-! ## Expiries, the tick and the pins -/

theorem sound_expireFirstHold (s : State) : Sound s s.expireFirstHold := by
  unfold State.expireFirstHold
  split
  · exact ((Calm.refl ∅ s).expireHold _).sound
  · exact Sound.refl s

theorem sound_expireHoldOf (i : Initiator) (g : Tag) (s : State) : Sound s (s.expireHoldOf i g) := by
  unfold State.expireHoldOf
  split
  · exact ((Calm.refl ∅ s).expireHold _).sound
  · exact Sound.refl s

theorem sound_expireQuietIfDue (r : RingId) (s : State) : Sound s (s.expireQuietIfDue r) :=
  (Calm.ite ((Calm.refl ∅ s).expireQuiet r) (Calm.refl ∅ s)).sound

theorem sound_expirePeriodIfDue (s : State) : Sound s s.expirePeriodIfDue :=
  (Calm.ite (Calm.refl ∅ s).expirePeriod (Calm.refl ∅ s)).sound

theorem sound_expireDueHolds (n : Nat) (s : State) : Sound s (State.expireDueHolds n s) := by
  induction n generalizing s with
  | zero => exact Sound.refl s
  | succ n ih =>
    unfold State.expireDueHolds
    split
    · exact ((sound_event s _ sound_expireFirstHold).trans (sound_due _)).trans (ih _)
    · exact Sound.refl s

theorem sound_expireQuiets (l : List RingId) (s : State) :
    Sound s (l.foldl (fun s r => s.event (State.expireQuietIfDue r)) s) := by
  induction l generalizing s with
  | nil => exact Sound.refl s
  | cons r l ih => exact (sound_event s _ (sound_expireQuietIfDue r)).trans (ih _)

theorem sound_tick (s : State) : Sound s s.tick := by
  unfold State.tick
  split
  · have due := ((sound_due s).trans (sound_expireDueHolds s.due.dueHolds _)).trans (sound_expireQuiets allRings _)
    exact ((due.trans (sound_event _ _ sound_expirePeriodIfDue)).trans (sound_due _)).trans
      ((Calm.refl ∅ _).modTimeBase _).sound
  · exact sound_due s

theorem reset_invalid : ∀ r : RingId, State.reset.rings[r].validity ≠ .valid := by decide

/-- The reset state's rings have no window, and no load is under way (R2, R132). -/
theorem runsSound_of_reset (hr : t.rings = State.reset.rings) (hc : t.control = State.reset.control) : t.runsSound := by
  have invalid (r : RingId) : ¬t.isValid r := by
    rw [State.isValid, hr]
    exact reset_invalid r
  refine ⟨fun r hv => absurd hv (invalid r), fun r _ _ hv => absurd hv (invalid r), fun l hl => ?_⟩
  rw [hc] at hl
  exact nomatch hl

theorem fillingIsCurrent_of_reset (hr : t.rings = State.reset.rings) : t.fillingIsCurrent := by
  intro r _ hv
  rw [State.isValid, hr] at hv
  exact absurd hv (reset_invalid r)

theorem sound_deviceReset (s : State) : Sound s s.deviceReset :=
  ⟨fun _ => runsSound_of_reset rfl rfl, fun _ _ => fillingIsCurrent_of_reset rfl⟩

theorem sound_release (ctlsel : BitVec 4) (s : State) : Sound s (s.release ctlsel) := by
  unfold State.release
  split
  · exact Sound.refl s
  · refine sound_of_load rfl rfl fun _ l hl => ?_
    cases hl
    exact Load.sound_begin _

/-! ## Every step -/

theorem sound_exec (i : Instr) (s t : State) (h : exec i s = .next t) : Sound s t := by
  have presented (x : Transaction) (e : Host.Outcome.next (s.present x) = (.next t : Host.Outcome State Fault Refusal)) :
      Sound s t := by
    cases e
    exact sound_present s x
  have effect {f : State → State} (hf : ∀ u, Sound u (f u))
      (e : Host.Outcome.next (s.event f) = (.next t : Host.Outcome State Fault Refusal)) : Sound s t := by
    cases e
    exact sound_event s f hf
  cases i with
  | deviceReset => cases h; exact (sound_due s).trans (sound_deviceReset _)
  | resetRelease ctlsel => cases h; exact (sound_due s).trans (sound_release ctlsel _)
  | wenFall => cases h; exact (sound_due s).trans ((Calm.refl ∅ _).modPins _).sound
  | wenRise => cases h; exact (sound_due s).trans (((Calm.refl ∅ _).modPins _).setEpisode _).sound
  | timeBaseTick => cases h; exact sound_tick s
  | arbiterGrant =>
    cases h
    refine (sound_entriesDue s).trans ?_
    unfold State.grant
    split
    · exact sound_grantTo _ _
    · exact Sound.refl _
  | releasedReadEntry => cases h; exact (Calm.refl ∅ s).enterReleased.sound.trans (sound_drainLink _)
  | passThroughCompletion x => exact effect (sound_completePassThrough x) h
  | trackedWriteCompletion fault => exact effect (sound_completeTrackedWrite fault) h
  | verifyReadCompletion x => exact effect (sound_completeVerifyRead x) h
  | reportWriteCompletion fault => exact effect (sound_completeReportWrite fault) h
  | loaderReadCompletion x => exact effect (sound_completeProfileRead x) h
  | loaderWriteCompletion fault => exact effect (sound_completeLoadWrite fault) h
  | quietTimerExpiry r => exact effect (sound_expireQuietIfDue r) h
  | holdDeadline i g => exact effect (sound_expireHoldOf i g) h
  | periodTimerExpiry => exact effect sound_expirePeriodIfDue h
  | _ => exact presented _ h

theorem sound_step (s t : State) (h : step s = .next t) : Sound s t := by
  unfold step at h
  split at h
  · cases h
    exact Sound.refl s
  · next c rest _ =>
    have queue : Sound s (s.withPending rest) := (Calm.outside (u := s.withPending rest) (Calm.refl ∅ s) rfl rfl rfl).sound
    exact queue.trans (sound_exec c _ t h)

end

/-- Settles O9: no operation but a commit lays runs out, and a commit lays them out by a sound verdict. -/
theorem everyStepKeepsRunsSound : Obligations.EveryStepKeepsRunsSound :=
  fun s t hs h => (sound_step s t h).runs hs

/-- Settles O10: a berth becomes FILLING by a claim alone, after the claim has abandoned the FILLING berth before it; and what
takes a ring out of its stand has abandoned or cleared its FILLING berth. -/
theorem everyStepKeepsOneFillingBerth : Obligations.EveryStepKeepsOneFillingBerth :=
  fun s t hs hf h => (sound_step s t h).filling hs hf

end Sys2Proof.Machine
end

-- ==== Reset and sequence numbers ====
section
/-! PROOFS. The values at device reset (R132) and the comparison of sequences (R11). -/

namespace Sys2Proof.Machine

open Sys2Proof Sys2Proof.Config

/-! ## Device reset -/

theorem berth_reset (p : Nat) : State.reset.berth p = Berth.free 0 := by
  unfold State.berth
  split
  · exact Vector.getElem_replicate _
  · rfl

theorem ring_reset (r : RingId) : State.reset.rings[r] = RingRecord.reset := Vector.getElem_replicate r.isLt

theorem counters_reset (r : RingId) : State.reset.counters[r] = CounterSet.zero := Vector.getElem_replicate r.isLt

theorem counter_zero (c : Counter) : CounterSet.zero.get c = 0 := Vector.getElem_replicate c.index.isLt

/-- Settles O4. -/
theorem resetValues : Obligations.ResetValues := by
  have ring (r : RingId) : State.reset.rings[r].opState = .disabled ∧ State.reset.rings[r].validity = .none ∧
      State.reset.rings[r].poolOffset = none ∧ State.reset.rings[r].occupancy = 0 ∧
      State.reset.rings[r].tracking = Tracking.rest .off ∧ State.reset.rings[r].tailCapture = emptyTail ∧
      ∀ k : SlotId, State.reset.rings[r].roster[k] = ⟨.vacant, none, none, false⟩ := by
    rw [ring_reset]
    exact ⟨rfl, rfl, rfl, rfl, rfl, rfl, fun k => Vector.getElem_replicate k.isLt⟩
  have counter (r : RingId) (c : Counter) : State.reset.counter r c = 0 := by
    rw [State.counter, counters_reset, counter_zero]
  have overflow (r : RingId) : State.reset.counters[r].overflow = 0 := by
    rw [counters_reset]
    rfl
  exact ⟨rfl, rfl, ring, berth_reset, rfl, rfl, rfl, rfl, rfl, rfl, rfl, rfl, rfl, rfl, rfl, rfl, rfl, rfl, counter,
    overflow, rfl, rfl, rfl⟩

/-- Settles O6: at reset every store is empty, no ring has a window, and no load is under way. -/
theorem invariantsHoldAtReset : Obligations.InvariantsHoldAtReset :=
  ⟨by decide, .inl rfl, List.nodup_nil, runsSound_of_reset rfl rfl, fillingIsCurrent_of_reset rfl⟩

/-! ## Sequences -/

theorem toNat_seq_sub (a b : Seq) : (a - b).toNat = (a.toNat + 65536 - b.toNat) % 65536 := by
  bv_omega

theorem seqAhead_iff (a b : Seq) : seqAhead a b = true ↔
    1 ≤ (a.toNat + 65536 - b.toNat) % 65536 ∧ (a.toNat + 65536 - b.toNat) % 65536 ≤ 32767 := by
  rw [seqAhead, Bool.and_eq_true, decide_eq_true_eq, decide_eq_true_eq, toNat_seq_sub]

/-- At half the range neither of two sequences is ahead of the other (R11). -/
theorem seqAhead_half (a b : Seq) (h : (a.toNat + 65536 - b.toNat) % 65536 = 32768) :
    seqAhead a b = false ∧ seqAhead b a = false ∧ a ≠ b := by
  have back : (b.toNat + 65536 - a.toNat) % 65536 = 32768 := by
    have := a.isLt
    have := b.isLt
    omega
  refine ⟨Bool.eq_false_iff.mpr fun ha => ?_, Bool.eq_false_iff.mpr fun hb => ?_, fun e => ?_⟩
  · rw [seqAhead_iff, h] at ha
    omega
  · rw [seqAhead_iff, back] at hb
    omega
  · rw [e] at h
    omega

/-- Settles O57. -/
theorem sequenceComparison : Obligations.SequenceComparison := by
  intro a b
  have equal : (a.toNat + 65536 - b.toNat) % 65536 = 0 ↔ a = b := by
    have := a.isLt
    have := b.isLt
    rw [← BitVec.toNat_inj]
    omega
  have itself : passes a a = false := Bool.eq_false_iff.mpr fun ha => by
    rw [passes, seqAhead_iff] at ha
    omega
  exact ⟨toNat_seq_sub a b, seqAhead_iff a b, equal, seqAhead_half a b, Iff.rfl, itself, BitVec.toNat_add a 1⟩

end Sys2Proof.Machine
end

-- ==== Passing and tracked writes ====
section
/-! PROOFS. Traffic that passes or is refused at once, and tracked completions (R51, R52, R89, R134, R138, R146). -/

namespace Sys2Proof.Machine

open Sys2Proof Sys2Proof.Config

/-! ## Decisions that end at once -/

/-- A read that the roster does not judge passes with OKAY (R89). -/
theorem routeRead_unjudged (s : State) (t : ReadTx) (a : Area) (h : s.unjudged t a = true) :
    s.routeRead a t = s.passRead .okay t := by
  cases a with
  | window r index o =>
    simp only [State.unjudged, Bool.or_eq_true, beq_iff_eq, Option.isNone_iff_eq_none] at h
    show s.readWindow r index t = _
    unfold State.readWindow
    dsimp only
    rcases h with (hd | hp) | hn
    · rw [hd]
      split
      · rfl
      · split <;> rfl
    · rw [if_pos hp]
    · rw [hn]
      exact ite_self _
  | _ => rfl

theorem settle_passWrite (s : State) (w : WriteTx) :
    s.settleReleases (s.passWrite none w) = s.pushPass (writeEntry w none) := settleReleases_none _ _ rfl

/-- A refusal with a record settles at once. -/
theorem settle_refuse_raise (s : State) (w : WriteTx) (c : Record) :
    s.settleReleases ((s.refuse w).raise c) = (s.respond w.initiator w.tag .refused []).raise c :=
  settleReleases_none _ _ (by simp)

/-- A writer may not write the guarded words exactly when a profile names other control initiators (R146). -/
theorem mayControl_eq_false_iff (s : State) (i : Initiator) : s.mayControl i = false ↔
    ∃ d, s.control.device = some d ∧ i ≠ d.controlA ∧ d.controlB ≠ some i := by
  unfold State.mayControl
  cases s.control.device with
  | none => simp
  | some d => simp [DeviceProfile.isControl]

theorem accessRefused_iff (s : State) (offset : Nat) (w : WriteTx) : s.accessRefused offset w = true ↔
    touchesPartWritten offset w.length = true ∨ touchesGuarded offset w.length = true ∧
      ∃ d, s.control.device = some d ∧ w.initiator ≠ d.controlA ∧ d.controlB ≠ some w.initiator := by
  rw [State.accessRefused, Bool.or_eq_true, Bool.and_eq_true, Bool.not_eq_true', mayControl_eq_false_iff, or_comm]

/-- Settles O34. -/
theorem uncheckedTrafficAndAccessChecks : Obligations.UncheckedTrafficAndAccessChecks := by
  intro s
  refine ⟨fun t ht hu => ?_, fun w ht => ⟨fun ha => ?_, fun n ha => ⟨fun hn => ?_, fun hn => ?_⟩⟩,
    fun i w r b offset hi ht ha hd => ?_, fun w offset ht hc => ⟨fun hr => ?_, fun hr h0 h1 => ?_⟩⟩
  · rw [exec_read _ t s rfl ht, routeRead_unjudged s t _ hu, settleReleases_none s (s.passRead .okay t) rfl]
    rfl
  · rw [exec_write_routed _ w s rfl ht]
    rcases ha with ha | ha <;> rw [ha] <;> exact congrArg _ (settle_passWrite s w)
  · rw [exec_write_routed _ w s rfl ht, ha, State.routeWrite, State.writeRange, if_pos hn, settle_passWrite]
  · rw [exec_write_routed _ w s rfl ht, ha, State.routeWrite, State.writeRange, if_neg hn, settle_refuse_raise]
    rfl
  · rw [exec_write_routed _ w s hi ht, ha, State.routeWrite, State.writeWindow, hd]
    exact congrArg _ (settle_passWrite s w)
  · rw [exec_write_routed _ w s rfl ht.1, ht.2, State.routeWrite, State.writeControl, hc,
      (accessRefused_iff s offset w).mpr hr, ← settle_refuse_raise]
    rfl
  · have passes : s.accessRefused offset w = false := by
      rw [← Bool.not_eq_true, accessRefused_iff]
      exact hr
    rw [exec_write_routed _ w s rfl ht.1, ht.2, State.routeWrite, State.writeControl, hc, passes, State.handOn, h0, h1]
    exact congrArg _ (settle_passWrite s w)

/-! ## Tracked completions without fault -/

/-- A completion row in a state in which nothing is due (R51, R130). -/
theorem exec_trackedCompletion (s : State) (h : s.nothingDue) :
    exec (.trackedWriteCompletion false) s = .next (s.settleReleases (s.completeTrackedWrite false)).drainLink :=
  congrArg _ (event_nothingDue s _ h)

/-- What a completion without fault does to the port and the link, before the berth: the entry is freed and its writer
answered OKAY (R126, R130). -/
def State.answered (s : State) (e : PassEntry) (rest : List Request) : State :=
  { s with
    port := { s.port with passThrough := s.port.passThrough.erase e, inFlight := rest }
    responses := s.responses ++ [⟨e.initiator, e.tag, .okay, []⟩] }

/-- The oldest request is a tracked write's: its entry is completed and its berth told (R51, R130). -/
theorem completeTrackedWrite_okay (s : State) (q : Request) (rest : List Request) (i : Initiator) (g : Tag) (e : PassEntry)
    (x : TrackTag) (hq : s.port.inFlight = q :: rest) (ho : q.origin = .passThrough i g)
    (he : s.port.entry? i g = some e) (hx : e.tracked? = some x) :
    s.completeTrackedWrite false = (s.answered e rest).completeTracked x e.initiator false := by
  have oldest : s.oldestEntry = some e := by
    simp [State.oldestEntry, hq, ho, he]
  have answered : s.retire.completeEntry e (.okay []) = s.answered e rest := by
    cases hb : e.body with
    | read o => simp [PassEntry.tracked?, hb] at hx
    | write data k =>
      simp only [State.completeEntry, State.respondCompleted, hb, State.retire, State.freeEntry, State.respond,
        State.modPort, hq, List.tail_cons, State.answered]
  rw [State.completeTrackedWrite, oldest]
  dsimp only
  rw [hx]
  dsimp only
  rw [if_neg Bool.false_ne_true, answered]

/-- A completion without fault of the berth's generation reaches the berth (R51). -/
theorem completeTracked_okay (s : State) (x : TrackTag) (writer : Initiator) (b : Nat) (hb : x.berth = s.poolIndex x.ring b) :
    s.completeTracked x writer false = if (s.berth x.berth).generation = x.generation then s.trackedOkay x.ring b else s := by
  have index : x.berth - s.rings[x.ring].poolBase = b := by
    rw [hb]
    exact Nat.add_sub_cancel_left _ _
  rw [State.completeTracked, index]
  rfl

/-- A berth that is not FREE is one of the pool. -/
theorem berth_lt_of_live (s : State) (p : Nat) (h : (s.berth p).state ≠ .free) : p < 2048 := by
  by_contra hp
  exact h (by simp [State.berth, hp, Berth.free])

/-- The writes outstanding fall by 1 (R51). -/
theorem outstanding_lowerOutstanding (s : State) (r : RingId) (b : Nat) (hp : s.poolIndex r b < 2048) :
    ((s.lowerOutstanding (s.poolIndex r b)).ringBerth r b).outstanding = (s.ringBerth r b).outstanding - 1 := by
  have index : (s.lowerOutstanding (s.poolIndex r b)).poolIndex r b = s.poolIndex r b := by
    simp only [State.poolIndex, rings_lowerOutstanding]
  rw [State.ringBerth, index, State.lowerOutstanding]
  exact congrArg Berth.outstanding (berth_modBerth_same s _ _ hp)

/-- A FREE berth is left alone (R51). -/
theorem trackedOkay_free (s : State) (r : RingId) (b : Nat) (h : (s.ringBerth r b).state = .free) : s.trackedOkay r b = s := by
  rw [State.trackedOkay, h]

/-- A berth that is FILLING or DAMAGED, or SETTLING with more writes to come, only has one write less outstanding (R51). -/
theorem trackedOkay_lowers (s : State) (r : RingId) (b : Nat)
    (h : (s.ringBerth r b).state = .filling ∨ (s.ringBerth r b).state = .damaged ∨
      (s.ringBerth r b).state = .settling ∧ 2 ≤ (s.ringBerth r b).outstanding) :
    s.trackedOkay r b = s.lowerOutstanding (s.poolIndex r b) := by
  rcases h with h | h | ⟨h, h2⟩
  · rw [State.trackedOkay, h]
  · rw [State.trackedOkay, h]
  · have hp : s.poolIndex r b < 2048 := berth_lt_of_live s _ (show (s.ringBerth r b).state ≠ _ by rw [h]; exact nofun)
    rw [State.trackedOkay, h]
    exact if_neg (by rw [outstanding_lowerOutstanding s r b hp]; omega)

/-- A SETTLING berth whose last write completes is handed on (R52). -/
theorem trackedOkay_settles (s : State) (r : RingId) (b : Nat) (h : (s.ringBerth r b).state = .settling)
    (h1 : (s.ringBerth r b).outstanding = 1) (hp : s.poolIndex r b < 2048) :
    s.trackedOkay r b = (s.lowerOutstanding (s.poolIndex r b)).settled r b := by
  rw [State.trackedOkay, h]
  exact if_pos (by rw [outstanding_lowerOutstanding s r b hp, h1])

/-- Settles O46. -/
theorem trackedCompletionByGeneration : Obligations.TrackedCompletionByGeneration := by
  intro s q rest i g e x b hq ho he hx hd hb
  have row : exec (.trackedWriteCompletion false) s = .next (s.settleReleases
      (if (s.berth x.berth).generation = x.generation then (s.answered e rest).trackedOkay x.ring b
        else s.answered e rest)).drainLink := by
    rw [exec_trackedCompletion s hd, completeTrackedWrite_okay s q rest i g e x hq ho he hx]
    exact congrArg (fun u => Host.Outcome.next (s.settleReleases u).drainLink) (completeTracked_okay _ x e.initiator b hb)
  have berth : (s.answered e rest).ringBerth x.ring b = s.berth x.berth := congrArg s.berth hb.symm
  have index : (s.answered e rest).poolIndex x.ring b = x.berth := hb.symm
  refine ⟨fun h => ?_, fun hg h => ?_, fun hg hs h1 hp => ?_⟩
  · have same : (if (s.berth x.berth).generation = x.generation then (s.answered e rest).trackedOkay x.ring b
        else s.answered e rest) = s.answered e rest := by
      split
      · next hg => exact trackedOkay_free _ _ _ (berth ▸ h.resolve_left fun hn => hn hg)
      · rfl
    rw [row, same, settleReleases_none s (s.answered e rest) rfl]
    rfl
  · rw [row, if_pos hg, trackedOkay_lowers _ _ _ (berth ▸ h), index,
      settleReleases_none s _ (holds_lowerOutstanding (s.answered e rest) _)]
    rfl
  · rw [row, if_pos hg, trackedOkay_settles _ _ _ (berth ▸ hs) (berth ▸ h1) (index ▸ hp), index]
    rfl

end Sys2Proof.Machine
end

-- ==== Commands ====
section
/-! PROOFS. The commands of R158: how a write of the command word reaches the command unit, the refusals, RELOAD, and what
RING_ENABLE and ATTACH leave (R4, R6, R32, R79, R80, R155, R159). -/

namespace Sys2Proof.Machine

open Sys2Proof Sys2Proof.Config

/-! ## A write of the command word -/

/-- A write of good form has at least one byte (R123). -/
theorem length_pos_of_form {s : State} {w : WriteTx} (h : s.takesForm w) : 1 ≤ w.length := by
  have hm := h.2.1
  simp only [State.malformed, extentOk, Bool.or_eq_false_iff, Bool.not_eq_false', Bool.and_eq_true, decide_eq_true_eq] at hm
  exact hm.1.1.1

/-- A write that begins at the command word, touches no other word and is allowed reaches the command unit (R146, R158). -/
theorem exec_command (i : Instr) (w : WriteTx) (s : State) (hi : i.transaction? = some (.write w))
    (ht : s.takesControlWrite w 0x300) (hl : w.length ≤ 8) (hm : s.mayControl w.initiator = true) :
    exec i s = .next (s.settleReleases ((s.passWrite none w).command (commandOf 0x300 w))) := by
  have pos := length_pos_of_form ht.1.1
  have cursors : touchesCursors 0x300 w.length = false := by
    simp only [touchesCursors, touches, Bool.and_eq_false_iff, decide_eq_false_iff_not]
    omega
  have partWritten : touchesPartWritten 0x300 w.length = false := by
    simp only [touchesPartWritten, touches, Bool.or_eq_false_iff, Bool.and_eq_false_iff, decide_eq_false_iff_not]
    omega
  have opcode : covers 0x300 w.length 0x300 = true := by
    simp only [covers, Bool.and_eq_true, decide_eq_true_eq]
    omega
  have tail : touches 0x300 w.length 0x318 0x320 = false := by
    simp only [touches, Bool.and_eq_false_iff, decide_eq_false_iff_not]
    omega
  have access : s.accessRefused 0x300 w = false := by
    rw [State.accessRefused, hm, partWritten]
    simp
  rw [exec_write_routed i w s hi ht.1, ht.2, State.routeWrite, State.writeControl, cursors, access, State.handOn, opcode,
    tail]
  rfl

/-! ## Refusals -/

/-- Why the command unit refuses a command: the first common check that fails, then the command's own rule (R158). -/
def State.refusal (s : State) (c : CommandWord) : Option Reason :=
  match s.commonCheck c with
  | some x => some x
  | none => match s.execute c with
    | .error x => some x
    | .ok _ => none

/-- The command unit takes or refuses a command in the state in which its write has passed and attention is cleared. -/
theorem command_passed (s : State) (w : WriteTx) (c : CommandWord) :
    (s.passWrite none w).command c =
      match (s.commanded w).commonCheck c with
      | some x => (s.commanded w).commandRefused c x
      | none => match (s.commanded w).execute c with
        | .error x => (s.commanded w).commandRefused c x
        | .ok t => t.commandTaken c := rfl

theorem exec_refused (i : Instr) (w : WriteTx) (s : State) (hi : i.transaction? = some (.write w))
    (ht : s.takesControlWrite w 0x300) (hl : w.length ≤ 8) (hm : s.mayControl w.initiator = true) (x : Reason)
    (hx : (s.commanded w).refusal (commandOf 0x300 w) = some x) :
    exec i s = .next ((s.commanded w).raise ((commandOf 0x300 w).record .commandRefused x.code)) := by
  have refused : (s.passWrite none w).command (commandOf 0x300 w) =
      (s.commanded w).raise ((commandOf 0x300 w).record .commandRefused x.code) := by
    rw [command_passed]
    unfold State.refusal at hx
    split at hx
    · cases hx
      rfl
    · split at hx
      · cases hx
        rfl
      · cases hx
  rw [exec_command i w s hi ht hl hm, refused, settleReleases_none]
  exact holds_raise _ _

theorem exec_taken (i : Instr) (w : WriteTx) (s t : State) (hi : i.transaction? = some (.write w))
    (ht : s.takesControlWrite w 0x300) (hl : w.length ≤ 8) (hm : s.mayControl w.initiator = true)
    (hc : (s.commanded w).commonCheck (commandOf 0x300 w) = none)
    (hx : (s.commanded w).execute (commandOf 0x300 w) = .ok t) :
    exec i s = .next (s.settleReleases (t.commandTaken (commandOf 0x300 w))) := by
  rw [exec_command i w s hi ht hl hm, command_passed, hc, hx]

/-! ## The common checks -/

section

variable {s : State} {c : CommandWord}

theorem refusal_of_check {x : Reason} (h : s.commonCheck c = some x) : s.refusal c = some x := by
  rw [State.refusal, h]

theorem refusal_of_rule {x : Reason} (h : s.commonCheck c = none) (hx : s.execute c = .error x) : s.refusal c = some x := by
  rw [State.refusal, h, hx]

theorem commonCheck_busy (h : s.control.unit = .busy) : s.commonCheck c = some .busy := if_pos h

theorem opcode_zero_iff : c.opcode = 0 ↔ c.opcode.toNat = 0 := by
  rw [← BitVec.toNat_inj]
  rfl

theorem commonCheck_unknown (h : s.control.unit ≠ .busy) (ho : c.opcode.toNat = 0 ∨ 8 < c.opcode.toNat) :
    s.commonCheck c = some .unknown := by
  rw [State.commonCheck, if_neg h, if_pos (by rwa [opcode_zero_iff])]

theorem commonCheck_badRing (h : s.control.unit ≠ .busy) (h1 : 1 ≤ c.opcode.toNat) (h6 : c.opcode.toNat ≤ 6)
    (hr : 7 < c.ring.toNat) : s.commonCheck c = some .badRing := by
  rw [State.commonCheck, if_neg h, if_neg (by rw [opcode_zero_iff]; omega), if_pos ⟨h6, hr⟩]

theorem commonCheck_noProfile (h : s.control.unit ≠ .busy) (h1 : 1 ≤ c.opcode.toNat) (h7 : c.opcode.toNat ≤ 7)
    (hr : c.opcode.toNat ≤ 6 → c.ring.toNat ≤ 7) (hd : s.control.device = none) : s.commonCheck c = some .noProfile := by
  rw [State.commonCheck, if_neg h, if_neg (by rw [opcode_zero_iff]; omega),
    if_neg (fun ⟨h6, hb⟩ => absurd (hr h6) (by omega)), if_pos ⟨h7, by rw [hd]; rfl⟩]

/-- A command of a known opcode passes the common checks: its ring is in range, and there is a profile or it is RELOAD. -/
theorem commonCheck_passes (h : s.control.unit ≠ .busy) (h1 : 1 ≤ c.opcode.toNat) (h8 : c.opcode.toNat ≤ 8)
    (hr : c.opcode.toNat ≤ 6 → c.ring.toNat ≤ 7) (hd : c.opcode.toNat ≤ 7 → s.control.device.isSome = true) :
    s.commonCheck c = none := by
  have profile : ¬(c.opcode.toNat ≤ 7 ∧ s.control.device.isNone) := fun ⟨h7, hn⟩ =>
    Option.isSome_iff_ne_none.mp (hd h7) (Option.isNone_iff_eq_none.mp hn)
  rw [State.commonCheck, if_neg h, if_neg (by rw [opcode_zero_iff]; omega),
    if_neg (fun ⟨h6, hb⟩ => absurd (hr h6) (by omega)), if_neg profile]

theorem ringOfByte_ringField : ∀ r : RingId, ringOfByte (ringField r) = r := by decide

theorem ringField_le : ∀ r : RingId, (ringField r).toNat ≤ 7 := by decide

/-- A slot byte in 0..3 names its slot (R158). -/
theorem slotOfByte_eq {b : Byte} {k : SlotId} (h : b.toNat = k.val) : slotOfByte? b = some k := by
  have hb : b.toNat < 4 := h ▸ k.isLt
  rw [slotOfByte?, dif_pos hb]
  exact congrArg some (Fin.ext h)

theorem slotOfByte_none {b : Byte} (h : 3 < b.toNat) : slotOfByte? b = none := dif_neg (by omega)

/-! ## What each ring command's rule says, by its first line that applies -/

variable {r : RingId}

theorem execute_enable (ho : c.opcode.toNat = 1) (hr : c.ring = ringField r) : s.execute c = s.ringEnable r := by
  simp only [State.execute, ho, hr, ringOfByte_ringField]

theorem execute_disable (ho : c.opcode.toNat = 2) (hr : c.ring = ringField r) : s.execute c = s.ringDisable r := by
  simp only [State.execute, ho, hr, ringOfByte_ringField]

theorem execute_reset (ho : c.opcode.toNat = 3) (hr : c.ring = ringField r) : s.execute c = s.ringReset r := by
  simp only [State.execute, ho, hr, ringOfByte_ringField]

theorem execute_reframe (ho : c.opcode.toNat = 4) (hr : c.ring = ringField r) : s.execute c = s.reframe r := by
  simp only [State.execute, ho, hr, ringOfByte_ringField]

theorem execute_attach (ho : c.opcode.toNat = 5) (hr : c.ring = ringField r) : s.execute c = s.attach r c.slot := by
  simp only [State.execute, ho, hr, ringOfByte_ringField]

theorem execute_detach (ho : c.opcode.toNat = 6) (hr : c.ring = ringField r) : s.execute c = s.detach r c.slot := by
  simp only [State.execute, ho, hr, ringOfByte_ringField]

theorem execute_reload (ho : c.opcode.toNat = 8) : s.execute c = s.beginReload c := by
  simp only [State.execute, ho]

/-- Every ring command is refused for a ring without a window (R4, R6, R32, R79, R80). -/
theorem execute_ringInvalid (h1 : 1 ≤ c.opcode.toNat) (h6 : c.opcode.toNat ≤ 6) (hr : c.ring = ringField r)
    (hv : s.rings[r].validity ≠ .valid) : s.execute c = .error .ringInvalid := by
  have opcode : c.opcode.toNat = 1 ∨ c.opcode.toNat = 2 ∨ c.opcode.toNat = 3 ∨ c.opcode.toNat = 4 ∨
      c.opcode.toNat = 5 ∨ c.opcode.toNat = 6 := by omega
  rcases opcode with ho | ho | ho | ho | ho | ho
  · rw [execute_enable ho hr, State.ringEnable, if_pos hv]
  · rw [execute_disable ho hr, State.ringDisable, if_pos hv]
  · rw [execute_reset ho hr, State.ringReset, if_pos hv]
  · rw [execute_reframe ho hr, State.reframe, if_pos hv]
  · rw [execute_attach ho hr, State.attach, if_pos hv]
  · rw [execute_detach ho hr, State.detach, if_pos hv]

variable (hv : s.rings[r].validity = .valid)

include hv

theorem ringEnable_active (h : s.rings[r].opState = .active) : s.ringEnable r = .error .state := by
  rw [State.ringEnable, if_neg (not_not.mpr hv), h]

theorem ringEnable_faultHeld (h : s.rings[r].opState = .faultHeld) : s.ringEnable r = .error .faultHeld := by
  rw [State.ringEnable, if_neg (not_not.mpr hv), h]

theorem ringEnable_disabled (h : s.rings[r].opState = .disabled) : s.ringEnable r = .ok (s.enableRing r) := by
  rw [State.ringEnable, if_neg (not_not.mpr hv), h]

theorem ringDisable_disabled (h : s.rings[r].opState = .disabled) : s.ringDisable r = .error .state := by
  rw [State.ringDisable, if_neg (not_not.mpr hv), h]

theorem ringDisable_faultHeld (h : s.rings[r].opState = .faultHeld) : s.ringDisable r = .error .faultHeld := by
  rw [State.ringDisable, if_neg (not_not.mpr hv), h]

theorem ringDisable_active (h : s.rings[r].opState = .active) :
    s.ringDisable r = .ok ((s.clearRing r).modRing r RingRecord.disabled) := by
  rw [State.ringDisable, if_neg (not_not.mpr hv), h]

theorem ringReset_disabled (h : s.rings[r].opState = .disabled) : s.ringReset r = .error .state := by
  rw [State.ringReset, if_neg (not_not.mpr hv), h]

theorem ringReset_taken (h : s.rings[r].opState ≠ .disabled) : s.ringReset r = .ok ((s.clearRing r).enableRing r) := by
  rw [State.ringReset, if_neg (not_not.mpr hv)]
  split
  · next hd => exact absurd hd h
  · rfl
  · rfl

theorem reframe_disabled (h : s.rings[r].opState = .disabled) : s.reframe r = .error .state := by
  rw [State.reframe, if_neg (not_not.mpr hv), h]

theorem reframe_faultHeld (h : s.rings[r].opState = .faultHeld) : s.reframe r = .error .faultHeld := by
  rw [State.reframe, if_neg (not_not.mpr hv), h]

theorem reframe_hunt (h : s.rings[r].opState = .active) (ha : s.rings[r].tracking.align = .hunt) :
    s.reframe r = .error .state := by
  rw [State.reframe, if_neg (not_not.mpr hv), h]
  dsimp only
  rw [ha]

theorem attach_badSlot {b : Byte} (h : 3 < b.toNat) : s.attach r b = .error .badSlot := by
  rw [State.attach, if_neg (not_not.mpr hv), slotOfByte_none h]

theorem detach_badSlot {b : Byte} (h : 3 < b.toNat) : s.detach r b = .error .badSlot := by
  rw [State.detach, if_neg (not_not.mpr hv), slotOfByte_none h]

variable {b : Byte} {k : SlotId} (hk : slotOfByte? b = some k)

include hk

theorem attach_disabled (h : s.rings[r].opState = .disabled) : s.attach r b = .error .state := by
  simp only [State.attach, hv, hk, h, ne_eq, not_true, if_false]

theorem attach_faultHeld (h : s.rings[r].opState = .faultHeld) : s.attach r b = .error .faultHeld := by
  simp only [State.attach, hv, hk, h, ne_eq, not_true, if_false]

theorem attach_notDetached (h : s.rings[r].opState = .active) (hs : s.rings[r].roster[k].state ≠ .detached) :
    s.attach r b = .error .state := by
  simp only [State.attach, hv, hk, h, hs, ne_eq, not_true, if_false]

theorem attach_detached (h : s.rings[r].opState = .active) (hs : s.rings[r].roster[k].state = .detached) :
    s.attach r b = .ok (s.modSlot r k fun slot => { slot with state := .attached, cursor := none, lapped := false }) := by
  simp only [State.attach, hv, hk, h, hs, ne_eq, not_true, if_false, if_true]

theorem detach_disabled (h : s.rings[r].opState = .disabled) : s.detach r b = .error .state := by
  simp only [State.detach, hv, hk, h, ne_eq, not_true, if_false]

theorem detach_notAttached (h : s.rings[r].opState ≠ .disabled) (hs : s.rings[r].roster[k].state ≠ .attached) :
    s.detach r b = .error .state := by
  cases ho : s.rings[r].opState with
  | disabled => exact absurd ho h
  | active => simp only [State.detach, hv, hk, ho, hs, ne_eq, not_true, if_false]
  | faultHeld => simp only [State.detach, hv, hk, ho, hs, ne_eq, not_true, if_false]

end

/-! ## RING_ENABLE and ATTACH -/

/-- A taken ring command leaves its effect and COMMAND_DONE (R158). -/
theorem exec_ringCommand (i : Instr) (w : WriteTx) (s t : State) (r : RingId) (op : Byte)
    (hi : i.transaction? = some (.write w)) (ht : s.takesRingCommand w op r) (h1 : 1 ≤ op.toNat) (h6 : op.toNat ≤ 6)
    (hx : (s.commanded w).execute (commandOf 0x300 w) = .ok t) :
    exec i s = .next (s.settleReleases (t.raise (commandDone w (ringField r) op))) := by
  obtain ⟨⟨hw, hl, hm, hu, ho⟩, hr, hd, hv⟩ := ht
  have seven : (commandOf 0x300 w).ring.toNat ≤ 7 := hr ▸ ringField_le r
  have check : (s.commanded w).commonCheck (commandOf 0x300 w) = none :=
    commonCheck_passes hu (by rwa [ho]) (by rw [ho]; omega) (fun _ => seven) (fun _ => hd)
  have ring : (commandOf 0x300 w).ringField = ringField r := by
    rw [CommandWord.ringField, if_pos ⟨by rwa [ho], by rwa [ho], seven⟩, hr]
  have eight : (commandOf 0x300 w).opcode ≠ 8 := fun e => by
    rw [ho] at e
    rw [e] at h6
    exact absurd h6 (by decide)
  have done : (commandOf 0x300 w).record .commandDone 0 = commandDone w (ringField r) op := by
    rw [CommandWord.record, ring, commandDone, ← ho]
    rfl
  rw [exec_taken i w s t hi hw hl hm check hx, State.commandTaken, if_neg eight, done]

/-- The roster that an enable builds does not depend on the old one (R78). -/
theorem enabled_eq (g : RingRecord) : g.enabled =
    { g with
      opState := .active
      tracking := Tracking.rest (if g.profile.groupSize = 1 then .off else .search)
      roster := mapSlots (fun k _ => match g.profile.consumers[k] with
        | some i => ⟨.attached, some i, none, false⟩
        | none => ⟨.vacant, none, none, false⟩) g.roster } := rfl

/-- Settles O38. -/
theorem enableAndAttach : Obligations.EnableAndAttach := by
  intro s w r
  refine ⟨fun ht hd => ?_, fun k ht hk ha hs => ?_⟩
  · have taken : (s.commanded w).execute (commandOf 0x300 w) = .ok ((s.commanded w).enableRing r) :=
      (execute_enable (by rw [ht.1.2.2.2.2]; rfl) ht.2.1).trans (ringEnable_disabled ht.2.2.2 hd)
    rw [exec_ringCommand _ w s _ r 1 rfl ht (by decide) (by decide) taken, settleReleases_none _ _ (by simp; rfl)]
    rfl
  · have taken : (s.commanded w).execute (commandOf 0x300 w) =
        .ok ((s.commanded w).modSlot r k fun slot => { slot with state := .attached, cursor := none, lapped := false }) :=
      (execute_attach (by rw [ht.1.2.2.2.2]; rfl) ht.2.1).trans (attach_detached (s := s.commanded w) ht.2.2.2 hk ha hs)
    rw [exec_ringCommand _ w s _ r 5 rfl ht (by decide) (by decide) taken, settleReleases_none _ _ (by simp; rfl)]

/-! ## RELOAD and the refusals -/

theorem beginReload_allDisabled (s : State) (c : CommandWord) (h : ∀ r : RingId, s.rings[r].opState = .disabled) :
    s.beginReload c = .ok (s.modControl fun u => { u with unit := .busy, load := some (Load.begin (.reload c.writer c.slot)) }) := by
  rw [State.beginReload, if_neg]
  rw [List.any_eq_true]
  rintro ⟨r, -, hr⟩
  rw [h r] at hr
  exact absurd hr (by decide)

theorem mem_allRings : ∀ r : RingId, r ∈ allRings := by decide

theorem beginReload_refused (s : State) (c : CommandWord) (r : RingId) (h : s.rings[r].opState ≠ .disabled) :
    s.beginReload c = .error .ringsActive := by
  rw [State.beginReload, if_pos]
  rw [List.any_eq_true]
  exact ⟨r, mem_allRings r, by simpa [-Fin.getElem_fin] using h⟩

/-- RELOAD with every ring DISABLED begins a load and raises no record yet (R159). -/
theorem exec_reload (s : State) (w : WriteTx) (ht : s.takesCommand w 8) (hd : ∀ r : RingId, s.rings[r].opState = .disabled) :
    exec (.reload w) s =
      .next ((s.commanded w).modControl fun u =>
        { u with unit := .busy, load := some (Load.begin (.reload w.initiator (commandOf 0x300 w).slot)) }) := by
  obtain ⟨hw, hl, hm, hu, ho⟩ := ht
  have n8 : (commandOf 0x300 w).opcode.toNat = 8 := by rw [ho]; rfl
  have check : (s.commanded w).commonCheck (commandOf 0x300 w) = none :=
    commonCheck_passes hu (by omega) (by omega) (fun h => by omega) (fun h => by omega)
  have taken := (execute_reload n8).trans (beginReload_allDisabled (s.commanded w) (commandOf 0x300 w) hd)
  rw [exec_taken _ w s _ rfl hw hl hm check taken, State.commandTaken, if_pos ho]
  exact congrArg _ (settleReleases_none _ _ rfl)

/-- The refusals by the common checks, in their order (R158). -/
theorem refusal_common (s : State) (c : CommandWord) :
    (s.control.unit = .busy → s.refusal c = some .busy) ∧
    (s.control.unit ≠ .busy →
      (c.opcode.toNat = 0 ∨ 8 < c.opcode.toNat → s.refusal c = some .unknown) ∧
      (1 ≤ c.opcode.toNat → c.opcode.toNat ≤ 6 → 7 < c.ring.toNat → s.refusal c = some .badRing) ∧
      (1 ≤ c.opcode.toNat → c.opcode.toNat ≤ 6 ∧ c.ring.toNat ≤ 7 ∨ c.opcode.toNat = 7 → s.control.device = none →
        s.refusal c = some .noProfile)) := by
  refine ⟨fun h => refusal_of_check (commonCheck_busy h), fun h => ⟨fun ho => refusal_of_check (commonCheck_unknown h ho),
    fun h1 h6 hr => refusal_of_check (commonCheck_badRing h h1 h6 hr), fun h1 ho hd => refusal_of_check ?_⟩⟩
  exact commonCheck_noProfile h h1 (by omega) (by omega) hd

/-- The refusals by the ring commands' own rules, once the common checks are passed (R4, R6, R32, R79, R80). -/
theorem refusal_rules (s : State) (c : CommandWord) (r : RingId) (hu : s.control.unit ≠ .busy) (hr : c.ring = ringField r)
    (hd : s.control.device.isSome = true) (hv : s.rings[r].validity = .valid) :
    (c.opcode.toNat = 1 → (s.rings[r].opState = .active → s.refusal c = some .state) ∧
      (s.rings[r].opState = .faultHeld → s.refusal c = some .faultHeld)) ∧
    (c.opcode.toNat = 2 → (s.rings[r].opState = .disabled → s.refusal c = some .state) ∧
      (s.rings[r].opState = .faultHeld → s.refusal c = some .faultHeld)) ∧
    (c.opcode.toNat = 3 → s.rings[r].opState = .disabled → s.refusal c = some .state) ∧
    (c.opcode.toNat = 4 → (s.rings[r].opState = .disabled → s.refusal c = some .state) ∧
      (s.rings[r].opState = .faultHeld → s.refusal c = some .faultHeld) ∧
      (s.rings[r].opState = .active → s.rings[r].tracking.align = .hunt → s.refusal c = some .state)) ∧
    (c.opcode.toNat = 5 ∨ c.opcode.toNat = 6 → (3 < c.slot.toNat → s.refusal c = some .badSlot) ∧
      (c.slot.toNat ≤ 3 → s.rings[r].opState = .disabled → s.refusal c = some .state)) ∧
    ∀ k : SlotId, c.slot.toNat = k.val →
      (c.opcode.toNat = 5 → (s.rings[r].opState = .faultHeld → s.refusal c = some .faultHeld) ∧
        (s.rings[r].opState = .active → s.rings[r].roster[k].state ≠ .detached → s.refusal c = some .state)) ∧
      (c.opcode.toNat = 6 → s.rings[r].opState ≠ .disabled → s.rings[r].roster[k].state ≠ .attached →
        s.refusal c = some .state) := by
  have rule {x : Reason} (h1 : 1 ≤ c.opcode.toNat) (h6 : c.opcode.toNat ≤ 6) (hx : s.execute c = .error x) :
      s.refusal c = some x :=
    refusal_of_rule (commonCheck_passes hu h1 (by omega) (fun _ => hr ▸ ringField_le r) fun _ => hd) hx
  refine ⟨fun ho => ?_, fun ho => ?_, fun ho h => ?_, fun ho => ?_, fun ho => ?_, fun k hk => ⟨fun ho => ?_, fun ho h hs => ?_⟩⟩
  · have run := execute_enable (s := s) ho hr
    exact ⟨fun h => rule (by omega) (by omega) (run.trans (ringEnable_active hv h)),
      fun h => rule (by omega) (by omega) (run.trans (ringEnable_faultHeld hv h))⟩
  · have run := execute_disable (s := s) ho hr
    exact ⟨fun h => rule (by omega) (by omega) (run.trans (ringDisable_disabled hv h)),
      fun h => rule (by omega) (by omega) (run.trans (ringDisable_faultHeld hv h))⟩
  · exact rule (by omega) (by omega) ((execute_reset ho hr).trans (ringReset_disabled hv h))
  · have run := execute_reframe (s := s) ho hr
    exact ⟨fun h => rule (by omega) (by omega) (run.trans (reframe_disabled hv h)),
      fun h => rule (by omega) (by omega) (run.trans (reframe_faultHeld hv h)),
      fun h ha => rule (by omega) (by omega) (run.trans (reframe_hunt hv h ha))⟩
  · have slot (hs : c.slot.toNat ≤ 3) : slotOfByte? c.slot = some ⟨c.slot.toNat, by omega⟩ := slotOfByte_eq rfl
    rcases ho with ho | ho
    · have run := execute_attach (s := s) ho hr
      exact ⟨fun h => rule (by omega) (by omega) (run.trans (attach_badSlot hv h)),
        fun hs h => rule (by omega) (by omega) (run.trans (attach_disabled hv (slot hs) h))⟩
    · have run := execute_detach (s := s) ho hr
      exact ⟨fun h => rule (by omega) (by omega) (run.trans (detach_badSlot hv h)),
        fun hs h => rule (by omega) (by omega) (run.trans (detach_disabled hv (slot hs) h))⟩
  · have run := execute_attach (s := s) ho hr
    exact ⟨fun h => rule (by omega) (by omega) (run.trans (attach_faultHeld hv (slotOfByte_eq hk) h)),
      fun h hs => rule (by omega) (by omega) (run.trans (attach_notDetached hv (slotOfByte_eq hk) h hs))⟩
  · exact rule (by omega) (by omega) ((execute_detach ho hr).trans (detach_notAttached hv (slotOfByte_eq hk) h hs))

/-- Settles O42: each refusal is the reason that the command unit finds in the state the write has reached. -/
theorem reloadAndRefusedCommands : Obligations.ReloadAndRefusedCommands := by
  refine ⟨fun s w => ⟨exec_reload s w, fun ht r hr => ?_, fun op ht ho => ?_⟩, fun i w s hi ht hl hm => ?_⟩
  · obtain ⟨hw, hl, hm, hu, ho⟩ := ht
    have n8 : (commandOf 0x300 w).opcode.toNat = 8 := by rw [ho]; rfl
    have check : (s.commanded w).commonCheck (commandOf 0x300 w) = none :=
      commonCheck_passes hu (by omega) (by omega) (fun h => by omega) (fun h => by omega)
    rw [exec_refused (.reload w) w s rfl hw hl hm .ringsActive
      (refusal_of_rule check ((execute_reload n8).trans (beginReload_refused _ _ r hr))), CommandWord.record,
      CommandWord.ringField, if_neg (by omega), ho]
    rfl
  · obtain ⟨hw, hl, hm, hu, hop⟩ := ht
    have known : (commandOf 0x300 w).opcode.toNat = 0 ∨ 8 < (commandOf 0x300 w).opcode.toNat := by
      rw [← opcode_zero_iff, hop]
      exact ho
    rw [exec_refused (.unknownCommand w) w s rfl hw hl hm .unknown (refusal_of_check (commonCheck_unknown hu known)),
      CommandWord.record, CommandWord.ringField, if_neg (by omega), hop]
    rfl
  · have refused (x : Reason) (hx : (s.commanded w).refusal (commandOf 0x300 w) = some x) :=
      exec_refused i w s hi ht hl hm x hx
    obtain ⟨busy, checks⟩ := refusal_common (s.commanded w) (commandOf 0x300 w)
    refine ⟨fun hu => refused .busy (busy hu), fun hu => ?_⟩
    obtain ⟨unknown, badRing, noProfile⟩ := checks hu
    refine ⟨fun ho => refused .unknown (unknown ho), fun h1 h6 hr => refused .badRing (badRing h1 h6 hr),
      fun h1 ho hd => refused .noProfile (noProfile h1 ho hd), fun r hr hd => ⟨fun h1 h6 hv => ?_, fun hv => ?_⟩⟩
    · exact refused .ringInvalid (refusal_of_rule (commonCheck_passes hu h1 (by omega) (fun _ => hr ▸ ringField_le r)
        fun _ => hd) (execute_ringInvalid h1 h6 hr hv))
    · obtain ⟨enable, disable, reset, reframe, slots, slot⟩ := refusal_rules (s.commanded w) (commandOf 0x300 w) r hu hr hd hv
      refine ⟨fun ho => ⟨fun h => refused .state ((enable ho).1 h), fun h => refused .faultHeld ((enable ho).2 h)⟩,
        fun ho => ⟨fun h => refused .state ((disable ho).1 h), fun h => refused .faultHeld ((disable ho).2 h)⟩,
        fun ho h => refused .state (reset ho h),
        fun ho => ⟨fun h => refused .state ((reframe ho).1 h), fun h => refused .faultHeld ((reframe ho).2.1 h),
          fun h ha => refused .state ((reframe ho).2.2 h ha)⟩,
        fun ho => ⟨fun h => refused .badSlot ((slots ho).1 h), fun hs h => refused .state ((slots ho).2 hs h)⟩,
        fun k hk => ⟨fun ho => ⟨fun h => refused .faultHeld (((slot k hk).1 ho).1 h),
          fun h hs => refused .state (((slot k hk).1 ho).2 h hs)⟩, fun ho h hs => refused .state ((slot k hk).2 ho h hs)⟩⟩

end Sys2Proof.Machine
end

-- ==== Clears ====
section
/-! PROOFS. What a clear leaves of a ring, and RING_DISABLE and RING_RESET (R5, R6). -/

namespace Sys2Proof.Machine

open Sys2Proof Sys2Proof.Config

/-! ## The parts of a clear -/

/-- A slot of a mapped roster. -/
theorem mapSlots_get (f : SlotId → Slot → Slot) (v : Vector Slot 4) (k : SlotId) : (mapSlots f v)[k] = f k v[k] := by
  fin_cases k <;> rfl

/-- Operations that each change the pool alone change the pool alone. -/
theorem foldl_pool {α : Type} (g : State → α → State) (h : ∀ s a, ∃ v, g s a = { s with pool := v }) (l : List α) (s : State) :
    ∃ v, l.foldl g s = { s with pool := v } := by
  induction l generalizing s with
  | nil => exact ⟨s.pool, rfl⟩
  | cons a l ih =>
    obtain ⟨v, hv⟩ := h s a
    obtain ⟨v', hv'⟩ := ih (g s a)
    exact ⟨v', by rw [List.foldl_cons, hv', hv]⟩

theorem modBerth_pool (s : State) (p : Nat) (f : Berth → Berth) : ∃ v, s.modBerth p f = { s with pool := v } := by
  unfold State.modBerth
  split
  · exact ⟨_, rfl⟩
  · exact ⟨s.pool, rfl⟩

theorem clearBerths_pool (s : State) (r : RingId) : ∃ v, s.clearBerths r = { s with pool := v } :=
  foldl_pool _ (fun _ _ => modBerth_pool _ _ _) _ s

/-- A ring's work dropped: its entries end unmeasured and its jobs leave the queue (R103, R119). -/
theorem dropRingWork_eq (s : State) (r : RingId) : s.dropRingWork r =
    { s with
      holds := s.holds.filter fun h => !(h.waiting && h.ring == r)
      responses := s.responses ++ notReadyResponses (s.holds.filter fun h => h.waiting && h.ring == r)
      verify := (s.verify.removeRing r).activate } := by
  obtain ⟨c, hc, hs⟩ := endHolds_spec s false fun h => h.ring == r
  rw [State.dropRingWork, hc, hs rfl]
  rfl

/-- A clear, but for the pool: the ring's work is dropped and its own fields are cleared (R5). -/
theorem clearRing_eq (s : State) (r : RingId) : ∃ v, s.clearRing r =
    { s with
      holds := s.holds.filter fun h => !(h.waiting && h.ring == r)
      responses := s.responses ++ notReadyResponses (s.holds.filter fun h => h.waiting && h.ring == r)
      verify := (s.verify.removeRing r).activate
      rings := s.rings.set r.val s.rings[r].cleared
      pool := v } := by
  obtain ⟨v, hv⟩ := clearBerths_pool (s.dropRingWork r) r
  exact ⟨v, by rw [State.clearRing, hv, dropRingWork_eq]; rfl⟩

/-- The pool after a clear (R5). -/
theorem berth_clearRing (s : State) (r : RingId) (hs : s.rings[r].poolBase + s.rings[r].profile.berthCount ≤ 2048) (p : Nat) :
    (s.clearRing r).berth p =
      if s.rings[r].poolBase ≤ p ∧ p < s.rings[r].poolBase + s.rings[r].profile.berthCount then (s.berth p).cleared
      else s.berth p := by
  have rings : (s.dropRingWork r).rings = s.rings := (dropRingWork_spec s r).1
  have pool : (s.dropRingWork r).berth p = s.berth p := berth_congr _ _ p (dropRingWork_spec s r).2
  rw [State.clearRing, berth_modRing, berth_clearBerths _ r (by rw [rings]; exact hs), rings, pool]

/-- A job that waits at the head of the queue begins its first try (R112). -/
theorem activate_waiting (e : VerifyEngine) (j : VerifyJob) (rest : List VerifyJob) (hq : e.queue = j :: rest)
    (hj : j.phase = .waiting) : e.activate =
      { e with queue := { j with tries := j.tries + 1, phase := .reading } :: rest, cursor := 0, check := crcInit
               tail := emptyTail } := by
  simp only [VerifyEngine.activate, VerifyEngine.beginTry, hq, hj, if_true]

/-- No job waits at the head of the queue: none begins. -/
theorem activate_none (e : VerifyEngine) (h : ∀ j, e.queue.head? = some j → j.phase ≠ .waiting) : e.activate = e := by
  unfold VerifyEngine.activate
  split
  · rfl
  · next j rest hq => exact if_neg (h j (by rw [hq]; rfl))

/-! ## A cleared ring -/

/-- An open port has no released read waiting (R100, R122). -/
theorem waiting_of_portOpen (s : State) (h : s.portOpen) : ∀ x ∈ s.holds, x.waiting = true := by
  have a := h.2.1
  simp only [State.accepts, Bool.and_eq_true, Bool.not_eq_true', State.releasedWaits, List.any_eq_false,
    Bool.not_eq_false] at a
  exact a.2

/-- With only entries in the Hold Queue nothing has been released. -/
theorem settleReleases_waiting (s t : State) (h : ∀ x ∈ t.holds, x.waiting = true) : s.settleReleases t = t := by
  have none : t.releasedCount = 0 := by
    rw [State.releasedCount, List.length_eq_zero_iff, List.filter_eq_nil_iff]
    intro x hx
    rw [h x hx]
    decide
  rw [State.settleReleases, none, if_neg (Nat.not_lt_zero _)]

/-- What a ring command makes of a ring once it is cleared: its run, its cleared fields and its emptied slots stay. -/
structure KeepsCleared (f : RingRecord → RingRecord) : Prop where
  layout : ∀ g, (f g).layout = g.layout
  occupancy : ∀ g, (f g).occupancy = g.occupancy
  tailCapture : ∀ g, (f g).tailCapture = g.tailCapture
  slots : ∀ (g : RingRecord) (k : SlotId), (f g.cleared).roster[k].cursor = none ∧ (f g.cleared).roster[k].lapped = false

/-- A clear does what R5 says, in a state with only entries in the Hold Queue. -/
theorem clearedTo_clearRing (s : State) (r : RingId) (f : RingRecord → RingRecord) (hf : KeepsCleared f)
    (hs : s.rings[r].poolBase + s.rings[r].profile.berthCount ≤ 2048) (hw : ∀ x ∈ s.holds, x.waiting = true) :
    s.clearedTo r ((s.clearRing r).modRing r f) := by
  have calm : Calm {r} s ((s.clearRing r).modRing r f) :=
    ((Calm.refl _ s).clearRing r).modRing r f hf.layout (.inl (Set.mem_singleton r))
  have berth (p : Nat) : ((s.clearRing r).modRing r f).berth p = (s.clearRing r).berth p := berth_modRing _ r f p
  have ring : ((s.clearRing r).modRing r f).rings[r] = f s.rings[r].cleared := by
    obtain ⟨v, hv⟩ := clearRing_eq s r
    rw [ring_modRing_same, hv]
    exact congrArg f (Vector.getElem_set_self r.isLt)
  have kept : s.holds.filter (fun h => !(h.waiting && h.ring == r)) = s.holds.filter (fun h => h.ring != r) :=
    List.filter_congr fun x hx => by rw [hw x hx, Bool.true_and, bne]
  have ended : s.holds.filter (fun h => h.waiting && h.ring == r) = s.holds.filter (fun h => h.ring == r) :=
    List.filter_congr fun x hx => by rw [hw x hx, Bool.true_and]
  obtain ⟨v, hv⟩ := clearRing_eq s r
  have verify : ((s.clearRing r).modRing r f).verify = (s.verify.removeRing r).activate := by rw [hv]; rfl
  refine ⟨fun i hi => ?_, ?_, ?_, fun p hp => ?_, fun j rest hq hj => ?_, fun hq => ?_, ?_, ?_, fun k => ?_, ?_,
    fun q hq => ?_⟩
  · rw [State.ringBerth, poolIndex_of_layout (calm.layout r), berth, berth_clearRing s r hs,
      if_pos ⟨Nat.le_add_right _ _, Nat.add_lt_add_left hi _⟩]
    rfl
  · rw [hv]
    exact kept
  · rw [hv]
    exact congrArg (fun l => s.responses ++ notReadyResponses l) ended
  · rw [berth, berth_clearRing s r hs, if_neg]
    rintro ⟨hlo, hhi⟩
    refine hp (p - s.rings[r].poolBase) (by omega) ?_
    rw [State.poolIndex, RingRecord.poolIndex]
    omega
  · rw [verify]
    exact activate_waiting _ j rest hq hj
  · rw [verify]
    exact activate_none _ hq
  · rw [ring, hf.occupancy]
    rfl
  · rw [ring, hf.tailCapture]
    rfl
  · rw [ring]
    exact hf.slots _ k
  · rw [hv]
    rfl
  · rw [ring_modRing_other _ _ _ _ hq, hv]
    exact Vector.getElem_set_ne r.isLt q.isLt fun e => hq (Fin.ext e.symm)

/-- A record raised is no part of what R5 says. -/
theorem clearedTo_raise {s t : State} {r : RingId} (h : s.clearedTo r t) (c : Record) : s.clearedTo r (t.raise c) := by
  simpa only [State.clearedTo, State.ringBerth, State.poolIndex, rings_raise, berth_raise, holds_raise, responses_raise,
    verify_raise, counters_raise] using h

/-- The report of a record raised depends on the profile in force, the count and the report. -/
theorem report_raise_congr {s t : State} (c : Record) (hd : t.control.device = s.control.device) (hr : t.report = s.report)
    (hn : t.timeBase.now = s.timeBase.now) : (t.raise c).report = (s.raise c).report := by
  unfold State.raise State.offer
  rw [hd, hn]
  split
  · exact hr
  · split
    · rw [report_modReport, report_modReport, hr]
    · exact hr

/-! ## RING_DISABLE and RING_RESET -/

theorem keepsCleared_disabled : KeepsCleared RingRecord.disabled :=
  ⟨fun _ => rfl, fun _ => rfl, fun _ => rfl, fun g k => by
    rw [RingRecord.disabled, mapSlots_get]
    exact ⟨rfl, rfl⟩⟩

/-- The slot that an enable gives a consumer (R78). -/
theorem roster_enabled (g : RingRecord) (k : SlotId) :
    g.enabled.roster[k] = Slot.forConsumer .attached g.profile.consumers[k] := by
  rw [RingRecord.enabled, RingProfile.roster, mapSlots_get]

theorem keepsCleared_enabled : KeepsCleared RingRecord.enabled :=
  ⟨fun _ => rfl, fun _ => rfl, fun _ => rfl, fun g k => by
    rw [roster_enabled]
    unfold Slot.forConsumer
    split <;> exact ⟨rfl, rfl⟩⟩

/-- A ring command that clears its ring: what it leaves, for what it then makes of the ring. -/
theorem exec_clearing (i : Instr) (s : State) (w : WriteTx) (r : RingId) (op : Byte) (f : RingRecord → RingRecord)
    (hf : KeepsCleared f) (hi : i.transaction? = some (.write w)) (ht : s.takesRingCommand w op r) (h1 : 1 ≤ op.toNat)
    (h6 : op.toNat ≤ 6) (hs : s.rings[r].poolBase + s.rings[r].profile.berthCount ≤ 2048)
    (hx : (s.commanded w).execute (commandOf 0x300 w) = .ok (((s.commanded w).clearRing r).modRing r f)) :
    ∃ t, exec i s = .next t ∧ s.clearedTo r t ∧ t.rings[r] = f s.rings[r].cleared ∧ t.port = (s.commanded w).port ∧
      t.report = (s.raise (commandDone w (ringField r) op)).report := by
  have waiting : ∀ x ∈ (s.commanded w).holds, x.waiting = true := waiting_of_portOpen s ht.1.1.1.1.1
  have cleared := clearedTo_clearRing (s.commanded w) r f hf hs waiting
  refine ⟨_, exec_ringCommand i w s _ r op hi ht h1 h6 hx, ?_⟩
  rw [settleReleases_waiting s _ (by
    rw [holds_raise, cleared.2.1]
    exact fun x hx => waiting x (List.mem_of_mem_filter hx))]
  obtain ⟨v, hv⟩ := clearRing_eq (s.commanded w) r
  refine ⟨clearedTo_raise cleared _, ?_, ?_, report_raise_congr _ ?_ ?_ ?_⟩
  · rw [rings_raise, ring_modRing_same, hv]
    exact congrArg f (Vector.getElem_set_self r.isLt)
  · rw [port_raise, hv]
    rfl
  all_goals
    rw [hv]
    rfl

/-- Settles O39. -/
theorem disableAndResetClearTheRing : Obligations.DisableAndResetClearTheRing := by
  intro s w r hs
  refine ⟨fun ht ha => ?_, fun ht ha => ?_⟩
  · obtain ⟨t, hx, hc, ring, port, report⟩ := exec_clearing (.ringDisable w) s w r 2 _ keepsCleared_disabled rfl ht (by decide) (by decide)
      hs ((execute_disable (by rw [ht.1.2.2.2.2]; rfl) ht.2.1).trans (ringDisable_active (s := s.commanded w) ht.2.2.2 ha))
    refine ⟨t, hx, hc, by rw [ring]; rfl, by rw [ring]; rfl, fun k => ?_, port, report⟩
    rw [ring, RingRecord.disabled, mapSlots_get, RingRecord.cleared, mapSlots_get]
    rfl
  · obtain ⟨t, hx, hc, ring, port, report⟩ := exec_clearing (.ringReset w) s w r 3 _ keepsCleared_enabled rfl ht (by decide) (by decide)
      hs ((execute_reset (by rw [ht.1.2.2.2.2]; rfl) ht.2.1).trans (ringReset_taken (s := s.commanded w) ht.2.2.2 ha))
    refine ⟨t, hx, hc, by rw [ring]; rfl, by rw [ring]; rfl, fun k => ?_, port, report⟩
    rw [ring, roster_enabled, show s.rings[r].cleared.profile = s.rings[r].profile from rfl]
    unfold Slot.forConsumer
    split
    · next e => rw [e]; rfl
    · next e => rw [e]; rfl

end Sys2Proof.Machine
end

-- ==== Accepted loads ====
section
/-! PROOFS. The end of an accepted load: what its commit leaves of every block (R154). -/

namespace Sys2Proof.Machine

open Sys2Proof Sys2Proof.Config

/-! ## The rings' work at a commit -/

/-- A job that becomes active stays its ring's (R112). -/
theorem rings_activate (e : VerifyEngine) : e.activate.queue.map (·.ring) = e.queue.map (·.ring) := by
  unfold VerifyEngine.activate
  split
  · rfl
  · next j rest hq =>
    split
    · simp [VerifyEngine.beginTry, hq]
    · rfl

theorem outstanding_activate (e : VerifyEngine) : e.activate.outstanding = e.outstanding := by
  unfold VerifyEngine.activate VerifyEngine.beginTry
  split
  · rfl
  · split
    · split <;> rfl
    · rfl

/-- With only released reads in the Hold Queue, dropping the work of the rings of a list takes their jobs and nothing else. -/
theorem foldl_dropRingWork (l : List RingId) (s : State) (hw : ∀ h ∈ s.holds, h.waiting = false) :
    ∃ v, l.foldl (fun s r => s.dropRingWork r) s = { s with verify := v } ∧ v.outstanding = s.verify.outstanding ∧
      v.queue.map (·.ring) = (s.verify.queue.map (·.ring)).filter (fun r => r ∉ l) := by
  induction l generalizing s with
  | nil => exact ⟨s.verify, rfl, rfl, by simp⟩
  | cons r l ih =>
    have kept : s.holds.filter (fun h => !(h.waiting && h.ring == r)) = s.holds :=
      List.filter_eq_self.mpr fun h hh => by rw [hw h hh]; rfl
    have ended : s.holds.filter (fun h => h.waiting && h.ring == r) = [] :=
      List.filter_eq_nil_iff.mpr fun h hh => by rw [hw h hh]; exact Bool.false_ne_true
    have step : s.dropRingWork r = { s with verify := (s.verify.removeRing r).activate } := by
      rw [dropRingWork_eq, kept, ended]
      simp [notReadyResponses]
    obtain ⟨v, hv, ho, hq⟩ := ih (s.dropRingWork r) (by rw [step]; exact hw)
    refine ⟨v, by rw [List.foldl_cons, hv, step], ?_, ?_⟩
    · rw [ho, step]
      exact outstanding_activate _
    · have jobs : (s.dropRingWork r).verify.queue.map (·.ring) = (s.verify.queue.map (·.ring)).filter (· != r) := by
        rw [step]
        refine (rings_activate _).trans ?_
        rw [VerifyEngine.removeRing, List.filter_map]
        rfl
      rw [hq, jobs, List.filter_filter]
      refine List.filter_congr fun q _ => ?_
      by_cases e : q = r <;> simp [e]

/-- Operations that each change the rings alone change the rings alone. -/
theorem foldl_rings {α : Type} (g : State → α → State) (h : ∀ s a, ∃ v, g s a = { s with rings := v }) (l : List α)
    (s : State) : ∃ v, l.foldl g s = { s with rings := v } := by
  induction l generalizing s with
  | nil => exact ⟨s.rings, rfl⟩
  | cons a l ih =>
    obtain ⟨v, hv⟩ := h s a
    obtain ⟨v', hv'⟩ := ih (g s a)
    exact ⟨v', by rw [List.foldl_cons, hv', hv]⟩

/-- Step 2 of R154 changes the rings, the pool and the verify queue, which it empties. -/
theorem commitRings_eq (s : State) (l : Load) (hw : ∀ h ∈ s.holds, h.waiting = false) :
    ∃ g v p, s.commitRings l = { s with rings := g, verify := v, pool := p } ∧ v.queue = [] ∧
      v.outstanding = s.verify.outstanding := by
  obtain ⟨v, hv, ho, hq⟩ := foldl_dropRingWork allRings s hw
  obtain ⟨g, hg⟩ := foldl_rings (fun s r => s.modRing r fun _ => RingRecord.committed l.image r l.verdict[r])
    (fun _ _ => ⟨_, rfl⟩) allRings { s with verify := v }
  refine ⟨g, v, s.pool.map Berth.cleared, ?_, ?_, ho⟩
  · unfold State.commitRings
    dsimp only
    rw [hv, hg]
  · rw [← List.map_eq_nil_iff, hq, List.filter_eq_nil_iff]
    exact fun r _ => by simp [mem_allRings r]

/-- The enables of a commit change the rings alone (step 5 of R154). -/
theorem commit_committedTo (s : State) (l : Load) : ∃ g, s.commit l = { s.committedTo l with rings := g } := by
  rw [commit_eq]
  refine foldl_rings _ (fun u r => ?_) allRings _
  by_cases h : l.enables r = true
  · exact ⟨_, by rw [if_pos h]; rfl⟩
  · exact ⟨u.rings, by rw [if_neg h]⟩

/-! ## The state that a commit leaves -/

/-- The Report Engine, the control unit and the profile as a commit sets them, before its records (steps 1 and 3 of R154). -/
def State.begun (s : State) (l : Load) : State :=
  { s with
    control := ⟨some (deviceOf l.image), .idle, s.control.loadCount + 1, false, none⟩
    report := { s.report with
      head := 0, tail := 0, headOwed := false, buffer := []
      dropped := if s.report.dropped.toNat + s.report.buffer.length < 2 ^ 32
        then s.report.dropped + BitVec.ofNat 32 s.report.buffer.length else 0xFFFFFFFF
      periodTimer := if (deviceOf l.image).snapshotPeriod = 0 then none
        else some (s.timeBase.now + BitVec.ofNat 32 ((deviceOf l.image).snapshotPeriod * 1000)) } }

/-- The LOAD_DONE record of an accepted load, with the count the load brings (R154). -/
def State.loadDoneRecord (s : State) (writer : Byte) : Record :=
  { kind := .loadDone, ring := 0xFF, berth := 0, seq := 0, initiator := writer, detail := 1
    extra := s.control.loadCount + 1 }

/-- A full buffer's records are counted as dropped, saturating (R163, R164). -/
theorem restarted_dropped (e : ReportEngine) (h : e.buffer.length ≤ recordBufferDepth) : e.restarted.dropped =
    if e.dropped.toNat + e.buffer.length < 2 ^ 32 then e.dropped + BitVec.ofNat 32 e.buffer.length else 0xFFFFFFFF := by
  have small : (BitVec.ofNat 32 e.buffer.length).toNat = e.buffer.length := by
    rw [BitVec.toNat_ofNat]
    exact Nat.mod_eq_of_lt (Nat.lt_of_le_of_lt h (by decide))
  rw [ReportEngine.restarted, saturatingAdd, small]

/-- What the end of an accepted load leaves beside its records: blocks that the load does not touch are as they were. -/
theorem commit_idle (s : State) (l : Load) (hr : l.result = some .accepted) (hw : ∀ h ∈ s.holds, h.waiting = false)
    (hb : s.report.buffer.length ≤ recordBufferDepth) :
    ∃ t, (s.modControl fun c => { c with loadCount := c.loadCount + 1, unit := .idle, load := none }).commit l = t ∧
      t.control = (s.begun l).control ∧ t.report = ((s.begun l).raise (s.loadDoneRecord l.kind.writerField)).report ∧
      t.verify.queue = [] ∧ t.verify.outstanding = s.verify.outstanding ∧
      t.timeBase = { s.timeBase with divisor := (deviceOf l.image).divisor } ∧ t.counters = s.counters ∧
      t.holds = s.holds ∧ t.responses = s.responses ∧ t.pins = s.pins ∧ t.episode = s.episode ∧ t.link = s.link ∧
      t.port = s.port := by
  refine ⟨_, rfl, ?_⟩
  obtain ⟨g, hg⟩ := commit_committedTo (s.modControl fun c =>
    { c with loadCount := c.loadCount + 1, unit := .idle, load := none }) l
  obtain ⟨g', v, p, hc, hq, ho⟩ := commitRings_eq ((s.modControl fun c =>
    { c with loadCount := c.loadCount + 1, unit := .idle, load := none }).commitDevice (deviceOf l.image)) l hw
  have code : l.resultCode = 1 := by rw [Load.resultCode, hr]; rfl
  rw [hg, State.committedTo, hc, State.raiseLoadDone, code]
  refine ⟨?_, ?_, ?_, ?_, ?_, ?_, ?_, ?_, ?_, ?_, ?_, ?_⟩
  · simp only [control_raise]
    rfl
  · refine report_raise_congr _ rfl ?_ rfl
    show ReportEngine.restarted _ = _
    rw [State.begun, ← restarted_dropped s.report hb]
    rfl
  · simp only [verify_raise]
    exact hq
  · simp only [verify_raise]
    exact ho
  · simp only [timeBase_raise]
    rfl
  · simp only [counters_raise]
    rfl
  · simp only [holds_raise]
    rfl
  · simp only [responses_raise]
    rfl
  · simp only [pins_raise]
    rfl
  · simp only [episode_raise]
    rfl
  · simp only [link_raise]
    rfl
  · simp only [port_raise]
    rfl

/-! ## The rings that a commit leaves -/

theorem roster_get (p : RingProfile) (x : SlotState) (k : SlotId) :
    (p.roster x)[k] = Slot.forConsumer x p.consumers[k] := by
  rw [RingProfile.roster, mapSlots_get]

theorem enables_iff (l : Load) (r : RingId) : l.enables r = true ↔
    l.verdict[r].isSome = true ∧ (deviceOf l.image).enableMask.getLsbD r.val = true := by
  rw [Load.enables, Bool.and_eq_true]

/-- A ring that the load enables is ACTIVE with its consumers attached (R3, R78). -/
theorem ringAfter_enabled (l : Load) (r : RingId) (h : l.enables r = true) :
    l.ringAfter r = (RingRecord.committed l.image r l.verdict[r]).enabled := if_pos h

/-- A ring that the load does not enable stays DISABLED (R3, R78). -/
theorem ringAfter_disabled (l : Load) (r : RingId) (h : ¬l.enables r = true) :
    l.ringAfter r = RingRecord.committed l.image r l.verdict[r] := if_neg h

theorem committed_roster_none (image : List Byte) (r : RingId) (k : SlotId) :
    (RingRecord.committed image r none).roster[k] = Slot.vacant := Vector.getElem_replicate k.isLt

theorem committed_roster_some (image : List Byte) (r : RingId) (o : Nat) (k : SlotId) :
    (RingRecord.committed image r (some o)).roster[k] = Slot.forConsumer .detached (ringProfileOf image r).consumers[k] :=
  roster_get _ _ k

/-- What a commit makes of ring r (steps 2 and 5 of R154). -/
theorem ringAfter_spec (l : Load) (r : RingId) :
    (l.ringAfter r).profile = ringProfileOf l.image r ∧ (l.ringAfter r).poolOffset = l.verdict[r] ∧
    (l.ringAfter r).validity = (if l.verdict[r].isSome then .valid else .invalid) ∧ (l.ringAfter r).occupancy = 0 ∧
    (l.ringAfter r).tailCapture = emptyTail ∧
    (l.enables r = true → (l.ringAfter r).opState = .active ∧
      (l.ringAfter r).tracking = Tracking.rest (if (ringProfileOf l.image r).groupSize = 1 then .off else .search)) ∧
    (¬l.enables r = true → (l.ringAfter r).opState = .disabled ∧ (l.ringAfter r).tracking = Tracking.rest .off) ∧
    ∀ k : SlotId,
      (l.verdict[r] = none → (l.ringAfter r).roster[k] = Slot.vacant) ∧
      ((ringProfileOf l.image r).consumers[k] = none → (l.ringAfter r).roster[k] = Slot.vacant) ∧
      ∀ i : Initiator, l.verdict[r].isSome = true → (ringProfileOf l.image r).consumers[k] = some i →
        (l.enables r = true → (l.ringAfter r).roster[k] = ⟨.attached, some i, none, false⟩) ∧
        (¬l.enables r = true → (l.ringAfter r).roster[k] = ⟨.detached, some i, none, false⟩) := by
  by_cases he : l.enables r = true
  · have some := (enables_iff l r).mp he |>.1
    rw [ringAfter_enabled l r he]
    refine ⟨rfl, rfl, rfl, rfl, rfl, fun _ => ⟨rfl, rfl⟩, fun h => absurd he h, fun k => ⟨fun h => ?_, fun h => ?_,
      fun i _ h => ⟨fun _ => ?_, fun h => absurd he h⟩⟩⟩
    · rw [h] at some
      exact absurd some (by simp)
    · rw [roster_enabled]
      exact congrArg (Slot.forConsumer .attached) h
    · rw [roster_enabled]
      exact congrArg (Slot.forConsumer .attached) h
  · rw [ringAfter_disabled l r he]
    refine ⟨rfl, rfl, rfl, rfl, rfl, fun h => absurd h he, fun _ => ⟨rfl, rfl⟩, fun k => ⟨fun h => ?_, fun h => ?_,
      fun i hs h => ⟨fun h => absurd h he, fun _ => ?_⟩⟩⟩
    · rw [h, committed_roster_none]
    · cases ho : l.verdict[r] with
      | none => exact committed_roster_none _ _ k
      | some o =>
        rw [committed_roster_some, h]
        rfl
    · obtain ⟨o, ho⟩ := Option.isSome_iff_exists.mp hs
      rw [ho, committed_roster_some, h]
      rfl

/-! ## The row -/

/-- The completion of an accepted load's status word ends the load (R153). -/
theorem completeLoadWrite_accepted (s : State) (q : Request) (rest : List Request) (l : Load)
    (hq : s.port.inFlight = q :: rest) (ho : q.origin = .loader .statusWord) (hl : s.control.load = some l)
    (hr : l.result = some .accepted) : s.completeLoadWrite false =
      ((s.retire.modControl fun c => { c with loadCount := c.loadCount + 1, unit := .idle, load := none }).commit
        l).raiseReloadDone l.kind := by
  have step : s.oldestStep = some .statusWord := by
    simp [State.oldestStep, hq, ho]
  have same : l.statusCompleted false = l := if_neg fun h => Bool.false_ne_true h.1
  rw [State.completeLoadWrite, step]
  show s.retire.completeLoaderWrite .statusWord false = _
  rw [State.completeLoaderWrite, show s.retire.control.load = some l from hl]
  show s.retire.endLoad (l.statusCompleted false) = _
  rw [same, State.endLoad, if_pos hr]

/-- Settles O53. -/
theorem acceptedLoadIsCommitted : Obligations.AcceptedLoadIsCommitted := by
  intro s q rest l hq ho hl hr hw hd hcap
  obtain ⟨t, ht, control, report, queue, outstanding, timeBase, counters, holds, responses, pins, episode, link, port⟩ :=
    commit_idle s.retire l hr hw hcap.2.2.2.2.2
  have report : t.report = ((s.begun l).raise (s.loadDoneRecord l.kind.writerField)).report :=
    report.trans (report_raise_congr _ rfl rfl rfl)
  have retired : s.retire.port = { s.port with inFlight := rest } := by
    simp only [State.retire, State.modPort, hq, List.tail_cons]
  have ring (r : RingId) : t.rings[r] = l.ringAfter r := ht ▸ ring_commit _ l r
  have berth (p : Nat) (hp : p < 2048) : t.berth p = Berth.free ((s.berth p).generation + 1) := ht ▸ berth_commit _ l p hp
  have row : exec (.loaderWriteCompletion false) s =
      .next (s.settleReleases (t.raiseReloadDone l.kind)).drainLink := by
    rw [← ht, ← completeLoadWrite_accepted s q rest l hq ho hl hr]
    exact congrArg _ (event_nothingDue s _ hd)
  have spec (r : RingId) := ringAfter_spec l r
  simp only [enables_iff] at spec
  cases hk : l.kind with
  | startUp =>
    refine ⟨t, ?_, control, ?_, berth, fun r => ring r ▸ spec r, queue, outstanding, timeBase, counters, holds, responses,
      pins, episode, link, port.trans retired⟩
    · rw [row, hk, settleReleases_none s _ (by exact holds)]
      rfl
    · rw [report, hk]
      rfl
  | reload writer slot =>
    refine ⟨t.raiseReloadDone l.kind, ?_, ?_, ?_, fun p hp => ?_, fun r => ?_, ?_⟩
    · rw [row, settleReleases_none s _ (by rw [hk]; exact (holds_raise _ _).trans holds)]
    · rw [hk]
      exact (control_raise _ _).trans control
    · rw [hk]
      refine report_raise_congr _ ?_ ?_ ?_
      · rw [control, control_raise]
        rfl
      · rw [report, hk]
        rfl
      · rw [timeBase, timeBase_raise]
        rfl
    · rw [hk]
      exact (berth_raise _ _ p).trans (berth p hp)
    · rw [hk, State.raiseReloadDone, rings_raise, ring r]
      exact spec r
    · rw [hk]
      simp only [State.raiseReloadDone, verify_raise, timeBase_raise, counters_raise, holds_raise, responses_raise, pins_raise,
        episode_raise, link_raise, port_raise]
      exact ⟨queue, outstanding, timeBase, counters, holds, responses, pins, episode, link, port.trans retired⟩

end Sys2Proof.Machine
end

-- ==== Images ====
section
/-! PROOFS. The judgment of a profile image (R147, R149, R150): each of the model's tests and the lines it stands for. -/

namespace Sys2Proof.Machine

open Sys2Proof Sys2Proof.Config

/-! ## Fields -/

theorem optionalInitiatorOk_iff (b : Byte) : optionalInitiatorOk b = true ↔ b.toNat < 64 ∨ b = 0xFF := by
  rw [optionalInitiatorOk, Bool.or_eq_true, decide_eq_true_eq, beq_iff_eq]

theorem append_two_bytes (x : BitVec 16) (a b : Byte) : x ++ (a ++ b) = x ++ a ++ b :=
  (@BitVec.append_assoc _ _ _ x a b).symm

theorem append_four_bytes (x : Word) (a b c d : Byte) : x ++ (a ++ b ++ c ++ d) = x ++ a ++ b ++ c ++ d := by
  have three (y : BitVec 24) : x ++ (y ++ d) = x ++ y ++ d := (@BitVec.append_assoc _ _ _ x y d).symm
  have two (y : BitVec 16) : x ++ (y ++ c) = x ++ y ++ c := (@BitVec.append_assoc _ _ _ x y c).symm
  have one : x ++ (a ++ b) = x ++ a ++ b := (@BitVec.append_assoc _ _ _ x a b).symm
  exact (three _).trans (congrArg (· ++ d) ((two _).trans (congrArg (· ++ c) one)))

theorem le32At_bytes (image : List Byte) (k : Nat) : le32At image k =
    byteAt image (k + 3) ++ byteAt image (k + 2) ++ byteAt image (k + 1) ++ byteAt image k :=
  append_two_bytes _ _ _

theorem le64At_bytes (image : List Byte) (k : Nat) : le64At image k =
    byteAt image (k + 7) ++ byteAt image (k + 6) ++ byteAt image (k + 5) ++ byteAt image (k + 4) ++
      byteAt image (k + 3) ++ byteAt image (k + 2) ++ byteAt image (k + 1) ++ byteAt image k := by
  rw [le64At, le32At_bytes, le32At_bytes]
  exact append_four_bytes _ _ _ _ _

/-- The two lowest bits of a byte as a number. -/
theorem toNat_extract_two (b : Byte) :
    (b.extractLsb' 0 2).toNat = (if b.getLsbD 0 then 1 else 0) + if b.getLsbD 1 then 2 else 0 := by
  simp only [BitVec.extractLsb'_toNat, BitVec.getLsbD, Nat.testBit_eq_decide_div_mod_eq, decide_eq_true_eq, Nat.shiftRight_zero,
    Nat.pow_zero, Nat.div_one, Nat.pow_one]
  split <;> split <;> omega

/-! ## Extents -/

theorem apart_iff (a b : Nat × Nat) : apart a b = true ↔ a.2 ≤ b.1 ∨ b.2 ≤ a.1 := by
  simp [apart]

theorem allApart_iff (l : List (Nat × Nat)) : allApart l = true ↔ l.Pairwise fun a b => a.2 ≤ b.1 ∨ b.2 ≤ a.1 := by
  induction l with
  | nil => simp [allApart]
  | cons a l ih => simp [allApart, ih, apart_iff]

/-- The report ring's entries are a power of two of 64..4096 (R147). -/
theorem reportEntriesOk_iff (n : Nat) : reportEntriesOk n = true ↔ ∃ k : Nat, 6 ≤ k ∧ k ≤ 12 ∧ n = 2 ^ k := by
  simp only [reportEntriesOk, List.contains_iff_mem, List.mem_cons, List.not_mem_nil, or_false]
  constructor
  · rintro (rfl | rfl | rfl | rfl | rfl | rfl | rfl)
    exacts [⟨6, by decide⟩, ⟨7, by decide⟩, ⟨8, by decide⟩, ⟨9, by decide⟩, ⟨10, by decide⟩, ⟨11, by decide⟩, ⟨12, by decide⟩]
  · rintro ⟨k, h6, h12, rfl⟩
    interval_cases k <;> decide

theorem snapshotPeriodOk_iff (n : Nat) : snapshotPeriodOk n = true ↔ n = 0 ∨ 10 ≤ n ∧ n ≤ 60000 := by
  simp [snapshotPeriodOk]

theorem allSlots_all_iff (f : SlotId → Bool) : allSlots.all f = true ↔ ∀ k : SlotId, f k = true := by
  rw [List.all_eq_true]
  exact ⟨fun h k => h k (by revert k; decide), fun h k _ => h k⟩

theorem rangeOk_iff (image : List Byte) (n : SlotId) : rangeOk image n = true ↔
    rangeSize image n ≤ 65536 ∧ (rangeSize image n ≠ 0 →
      (le64At image (rangeOffset n)).toNat % 4096 = 0 ∧
        ((byteAt image (rangeOffset n + 12)).toNat < 64 ∨ byteAt image (rangeOffset n + 12) = 0xFF) ∧
        (le64At image (rangeOffset n)).toNat + 4096 * rangeSize image n ≤ 2 ^ 36) := by
  simp only [rangeOk, Bool.or_eq_true, Bool.and_eq_true, beq_iff_eq, decide_eq_true_eq, optionalInitiatorOk_iff]
  rw [show (rangeExtent image n).2 = (le64At image (rangeOffset n)).toNat + 4096 * rangeSize image n from rfl]
  by_cases h : rangeSize image n = 0
  · simp [h]
  · simp [h, and_assoc]

/-! ## Ring profiles -/

theorem eraseDups_length_le (l : List Byte) : l.eraseDups.length ≤ l.length := by
  induction h : l.length using Nat.strong_induction_on generalizing l with
  | _ n ih =>
    cases l with
    | nil => simp at h; simp [h]
    | cons a l =>
      rw [List.eraseDups_cons, List.length_cons]
      have shorter := List.length_filter_le (fun b => !b == a) l
      rw [List.length_cons] at h
      have := ih _ (by omega) (l.filter fun b => !b == a) rfl
      omega

/-- A list without its repetitions is as long as it was exactly when it has none. -/
theorem eraseDups_length_iff (l : List Byte) : l.eraseDups.length = l.length ↔ l.Nodup := by
  induction h : l.length using Nat.strong_induction_on generalizing l with
  | _ n ih =>
    cases l with
    | nil => simp at h; simp [h]
    | cons a l =>
      rw [List.eraseDups_cons, List.length_cons, List.nodup_cons]
      rw [List.length_cons] at h
      have shorter := List.length_filter_le (fun b => !b == a) l
      have bound := eraseDups_length_le (l.filter fun b => !b == a)
      have all : (l.filter fun b => !b == a).length = l.length ↔ a ∉ l := by
        rw [List.length_filter_eq_length_iff]
        simp only [Bool.not_eq_true', beq_eq_false_iff_ne]
        exact ⟨fun h' ha => h' a ha rfl, fun h' b hb e => h' (e ▸ hb)⟩
      constructor
      · intro e
        have ha : a ∉ l := all.mp (by omega)
        have same : (l.filter fun b => !b == a) = l := List.filter_eq_self.mpr fun b hb => by
          simp only [Bool.not_eq_true', beq_eq_false_iff_ne]
          exact fun e' => ha (e' ▸ hb)
        rw [same] at e
        exact ⟨ha, (ih _ (by omega) l rfl).mp (by omega)⟩
      · rintro ⟨ha, hl⟩
        have same : (l.filter fun b => !b == a) = l := List.filter_eq_self.mpr fun b hb => by
          simp only [Bool.not_eq_true', beq_eq_false_iff_ne]
          exact fun e' => ha (e' ▸ hb)
        rw [same, (ih _ (by omega) l rfl).mpr hl]
        omega

/-- The two lines of R150 on the roles: no present consumer is a producer, and no two are equal. -/
theorem rolesOk_iff (image : List Byte) (r : RingId) : rolesOk image r = true ↔
    ∀ k : SlotId, consumerByte image r k ≠ 0xFF →
      consumerByte image r k ≠ byteAt image (ringOffset r + 4) ∧ consumerByte image r k ≠ byteAt image (ringOffset r + 5) ∧
        ∀ m : SlotId, m ≠ k → consumerByte image r m ≠ consumerByte image r k := by
  have slot (k : SlotId) : k ∈ allSlots := by revert k; decide
  have present (b : Byte) : b ∈ presentConsumers image r ↔ ∃ k : SlotId, consumerByte image r k = b ∧ b ≠ 0xFF := by
    simp only [presentConsumers, List.mem_filter, List.mem_map, bne_iff_ne]
    exact ⟨fun ⟨⟨k, _, e⟩, h⟩ => ⟨k, e, h⟩, fun ⟨k, e, h⟩ => ⟨⟨k, slot k, e⟩, h⟩⟩
  have distinct : (presentConsumers image r).Nodup ↔ ∀ k m : SlotId, k ≠ m → consumerByte image r k ≠ 0xFF →
      consumerByte image r m ≠ 0xFF → consumerByte image r k ≠ consumerByte image r m := by
    rw [presentConsumers, List.nodup_iff_pairwise_ne, List.pairwise_filter, List.pairwise_map]
    simp only [bne_iff_ne]
    constructor
    · intro h k m hne
      have symm : Std.Symm fun k m : SlotId => consumerByte image r k ≠ 0xFF → consumerByte image r m ≠ 0xFF →
          consumerByte image r k ≠ consumerByte image r m := ⟨fun _ _ h hk hm e => h hm hk e.symm⟩
      exact List.Pairwise.forall h (slot k) (slot m) hne
    · intro h
      exact List.Nodup.pairwise_of_forall_ne (by decide) fun k _ m _ hne => h k m hne
  simp only [rolesOk, Bool.and_eq_true, Bool.not_eq_true', beq_iff_eq, eraseDups_length_iff, distinct]
  rw [← Bool.not_eq_true, ← Bool.not_eq_true, List.contains_iff_mem, List.contains_iff_mem, present, present]
  constructor
  · rintro ⟨⟨hp, ha⟩, hd⟩ k hk
    refine ⟨fun e => hp ⟨k, e, e ▸ hk⟩, fun e => ha ⟨k, e, e ▸ hk⟩, fun m hm e => ?_⟩
    exact hd m k hm (e ▸ hk) hk e
  · intro h
    refine ⟨⟨fun ⟨k, e, hne⟩ => ?_, fun ⟨k, e, hne⟩ => ?_⟩, fun k m hne _ hm => (h m hm).2.2 k hne⟩
    · exact (h k (e ▸ hne)).1 e
    · exact (h k (e ▸ hne)).2.1 e

/-- The lines of R150 on a ring profile, judged against the areas taken and the running sum. -/
theorem ringOk_iff (image : List Byte) (r : RingId) (taken : List (Nat × Nat)) (sum : Nat) :
    ringOk image r taken sum = true ↔
      ringFieldsOk image r = true ∧ windowOk image r taken = true ∧ rolesOk image r = true ∧
        sum + berthCountOf image r ≤ poolSize := by
  simp only [ringOk, Bool.and_eq_true, decide_eq_true_eq, and_assoc]

theorem ringFieldsOk_iff (image : List Byte) (r : RingId) : ringFieldsOk image r = true ↔
    (byteAt image (ringOffset r)).getLsbD 0 = true ∧ (byteAt image (ringOffset r + 1)).extractLsb' 0 2 ≠ 0 ∧
      (byteAt image (ringOffset r + 4)).toNat < 64 ∧
      ((byteAt image (ringOffset r + 5)).toNat < 64 ∨ byteAt image (ringOffset r + 5) = 0xFF) ∧
      (∀ k : SlotId, (consumerByte image r k).toNat < 64 ∨ consumerByte image r k = 0xFF) ∧
      1 ≤ (byteAt image (ringOffset r + 10)).toNat ∧ (byteAt image (ringOffset r + 10)).toNat ≤ 16 ∧
      (byteAt image (ringOffset r + 10)).toNat ≤ berthCountOf image r ∧
      1 ≤ (byteAt image (ringOffset r + 11)).toNat ∧ (byteAt image (ringOffset r + 11)).toNat ≤ 4 ∧
      7 ≤ (byteAt image (ringOffset r + 13)).toNat ∧ (byteAt image (ringOffset r + 13)).toNat ≤ 14 ∧
      4 ≤ berthCountOf image r ∧ berthCountOf image r ≤ 512 := by
  simp only [ringFieldsOk, bitAt, Bool.and_eq_true, decide_eq_true_eq, bne_iff_ne, optionalInitiatorOk_iff, allSlots_all_iff,
    and_assoc]

theorem windowOk_iff (image : List Byte) (r : RingId) (taken : List (Nat × Nat)) : windowOk image r taken = true ↔
    (windowExtent image r).1 % 2 ^ (byteAt image (ringOffset r + 13)).toNat = 0 ∧ (windowExtent image r).2 ≤ 2 ^ 36 ∧
      ∀ a ∈ taken, (windowExtent image r).2 ≤ a.1 ∨ a.2 ≤ (windowExtent image r).1 := by
  simp only [windowOk, Bool.and_eq_true, decide_eq_true_eq, beq_iff_eq, List.all_eq_true, apart_iff, and_assoc]

/-- The lines of R149. -/
theorem deviceOk_iff (ctlsel : BitVec 4) (image : List Byte) : deviceOk ctlsel image = true ↔
    le16At image 0 = 0x5748 ∧ byteAt image 2 = 1 ∧ byteAt image 3 ≠ 0 ∧ (byteAt image 4).toNat < 64 ∧
      ((byteAt image 5).toNat < 64 ∨ byteAt image 5 = 0xFF) ∧ (le64At image 8).toNat % 4096 = 0 ∧
      (reportExtent image).2 ≤ 2 ^ 36 ∧ (∃ n : Nat, 6 ≤ n ∧ n ≤ 12 ∧ (le16At image 16).toNat = 2 ^ n) ∧
      ((le16At image 18).toNat = 0 ∨ 10 ≤ (le16At image 18).toNat ∧ (le16At image 18).toNat ≤ 60000) ∧
      (∀ n : SlotId, rangeOk image n = true) ∧
      (deviceExtents ctlsel image).Pairwise fun a b => a.2 ≤ b.1 ∨ b.2 ≤ a.1 := by
  simp only [deviceOk, Bool.and_eq_true, decide_eq_true_eq, beq_iff_eq, bne_iff_ne, optionalInitiatorOk_iff,
    reportEntriesOk_iff, snapshotPeriodOk_iff, allSlots_all_iff, allApart_iff, and_assoc]

/-! ## The profiles of an image -/

/-- A range entry is absent when its size field is 0 (R137). -/
theorem rangeOf_eq (image : List Byte) (n : SlotId) : rangeOf image n =
    if le32At image (rangeOffset n + 8) = 0 then none
    else some ⟨(le64At image (rangeOffset n)).setWidth 36, (le32At image (rangeOffset n + 8)).toNat,
      if byteAt image (rangeOffset n + 12) = 0xFF then none else some ((byteAt image (rangeOffset n + 12)).setWidth 6)⟩ := by
  have zero : rangeSize image n = 0 ↔ le32At image (rangeOffset n + 8) = 0 := by
    rw [rangeSize, ← BitVec.toNat_inj]
    rfl
  simp only [rangeOf, zero]
  rfl

/-- Settles O52. -/
theorem imagesAreJudged : Obligations.ImagesAreJudged := by
  intro ctlsel image initiatorOk clear
  refine ⟨?_, rfl, fun v r => ⟨fun h => ?_, fun h => ?_, ?_, ?_, fun k => ⟨rfl, le32At_bytes image k, le64At_bytes image k⟩⟩⟩
  · rw [deviceOk_iff]
    simp only [rangeOk_iff]
    rfl
  · have ok : ringOk image r v.taken v.sum = true := by
      rw [ringOk_iff, ringFieldsOk_iff, windowOk_iff, rolesOk_iff]
      obtain ⟨h0, h1, h2, h3, h4, h5, h6, h7, h8, h9, h10, h11, h12, h13, h14, h15, h16, h17, h18⟩ := h
      exact ⟨⟨h0, h1, h2, h3, h4, h5, h6, h7, h8, h9, h10, h11, h12, h13⟩, ⟨h14, h15, h16⟩, h17, h18⟩
    exact if_pos ok
  · refine if_neg fun ok => h ?_
    rw [ringOk_iff, ringFieldsOk_iff, windowOk_iff, rolesOk_iff] at ok
    obtain ⟨⟨h0, h1, h2, h3, h4, h5, h6, h7, h8, h9, h10, h11, h12, h13⟩, ⟨h14, h15, h16⟩, h17, h18⟩ := ok
    exact ⟨h0, h1, h2, h3, h4, h5, h6, h7, h8, h9, h10, h11, h12, h13, h14, h15, h16, h17, h18⟩
  · rw [ringProfileOf, toNat_extract_two]
    rfl
  · rw [deviceOf]
    simp only [rangeOf_eq]
    rfl

end Sys2Proof.Machine
end

-- ==== Areas and WEN ====
section
/-! PROOFS. The classification of an address (R12, R13, R137, R145) and what a WEN refusal does (R134, R135). -/

namespace Sys2Proof.Machine

open Sys2Proof Sys2Proof.Config

/-! ## WEN refusals -/

/-- A record changes nothing beside the Report Engine. -/
theorem raise_eq (s : State) (e : Record) : s.raise e = { s with report := (s.raise e).report } := by
  unfold State.raise State.offer
  split
  · rfl
  · split <;> rfl

/-- The one record of an episode: what reporting a refusal leaves (R135). -/
theorem reportDisabled_spec (s : State) (a : Area) (w : WriteTx) : ∃ e, s.reportDisabled a w =
    { s with episode := true, report := e } ∧
      e = (if s.episode then s else s.raise (s.writeDisabledRecord a w)).report := by
  unfold State.reportDisabled
  cases h : s.episode with
  | true =>
    refine ⟨s.report, ?_, rfl⟩
    rw [if_pos rfl, ← h]
  | false =>
    refine ⟨(s.raise (s.writeDisabledRecord a w)).report, ?_, rfl⟩
    exact congrArg (State.setEpisode true) (raise_eq s _)

/-- A WEN refusal counts for the ring of a window alone (R134). -/
theorem countDisabled_spec (s : State) (a : Area) : ∃ c, s.countDisabled a = { s with counters := c } ∧
    (∀ (r : RingId) (b o : Nat), a = .window r b o → c = (s.count r .writesRefused).counters) ∧
      ((∀ (r : RingId) (b o : Nat), a ≠ .window r b o) → c = s.counters) := by
  cases a with
  | window r b o =>
    refine ⟨(s.count r .writesRefused).counters, rfl, fun _ _ _ h => ?_, fun h => absurd rfl (h r b o)⟩
    cases h
    rfl
  | _ => exact ⟨s.counters, rfl, fun _ _ _ => nofun, fun _ => rfl⟩

/-- A write that WEN refuses acts on its response, the episode and its record, and the ring's count (R134, R135). -/
theorem refuseDisabled_spec (s : State) (a : Area) (w : WriteTx) : ∃ e c, s.refuseDisabled a w =
    { s with
      responses := s.responses ++ [⟨w.initiator, w.tag, .refused, []⟩], episode := true, report := e, counters := c } ∧
      e = (if s.episode then s else s.raise (s.writeDisabledRecord a w)).report ∧
      (∀ (r : RingId) (b o : Nat), a = .window r b o → c = (s.count r .writesRefused).counters) ∧
      ((∀ (r : RingId) (b o : Nat), a ≠ .window r b o) → c = s.counters) := by
  obtain ⟨e, he, hrec⟩ := reportDisabled_spec (s.refuse w) a w
  obtain ⟨c, hc, hwin, hother⟩ := countDisabled_spec ((s.refuse w).reportDisabled a w) a
  rw [he] at hc hwin hother
  refine ⟨e, c, ?_, ?_, hwin, hother⟩
  · rw [State.refuseDisabled, he, hc]
    rfl
  · rw [hrec]
    cases h : s.episode with
    | true => exact if_pos h ▸ rfl
    | false =>
      rw [if_neg (by rw [episode_refuse, h]; exact Bool.false_ne_true), if_neg Bool.false_ne_true]
      have record : (s.refuse w).writeDisabledRecord a w = s.writeDisabledRecord a w := by cases a <;> rfl
      rw [record]
      exact report_raise_congr _ rfl rfl rfl

/-! ## What WEN guards -/

theorem touches_iff (offset length lo hi : Nat) : touches offset length lo hi = true ↔ offset < hi ∧ lo < offset + length := by
  rw [touches, Bool.and_eq_true, decide_eq_true_eq, decide_eq_true_eq]

/-- In the control block WEN guards the profile area and the command word (R134). -/
theorem wenGuards_control (s : State) (w : WriteTx) (offset : Nat) (h : 1 ≤ w.length) :
    s.wenGuards (.control offset) w = true ↔
      ∃ k : Nat, offset ≤ k ∧ k < offset + w.length ∧ (k ≤ 0x283 ∨ 0x300 ≤ k ∧ k ≤ 0x307) := by
  rw [State.wenGuards, Bool.or_eq_true, touches_iff, touches_iff]
  constructor
  · rintro (⟨hhi, -⟩ | ⟨hhi, hlo⟩)
    · exact ⟨offset, by omega, by omega, by omega⟩
    · exact ⟨max offset 0x300, by omega, by omega, by omega⟩
  · rintro ⟨k, hlo, hhi, hk⟩
    omega

theorem wenGuards_window (s : State) (w : WriteTx) (r : RingId) (b o : Nat) :
    s.wenGuards (.window r b o) w = true ↔ s.rings[r].opState ≠ .disabled := by
  rw [State.wenGuards, bne_iff_ne]

/-! ## The areas of R12 -/

theorem toNat_controlTop (c : BitVec 4) : (c ++ 0xFFFFF#20).toNat = c.toNat * 2 ^ 20 + 0xFFFFF := by
  rw [BitVec.toNat_append, ← Nat.shiftLeft_add_eq_or_of_lt (by decide), Nat.shiftLeft_eq]
  rfl

/-- The control block is the 4 KiB from CTLSEL × 2^32 + 2^32 - 4096 (R145). -/
theorem inControlBlock_iff (c : BitVec 4) (a : Addr) : inControlBlock c a = true ↔
    c.toNat * 2 ^ 32 + 2 ^ 32 - 4096 ≤ a.toNat ∧ a.toNat < c.toNat * 2 ^ 32 + 2 ^ 32 - 4096 + 4096 := by
  have ha := a.isLt
  rw [inControlBlock, beq_iff_eq, ← BitVec.toNat_inj, BitVec.extractLsb'_toNat, toNat_controlTop, Nat.shiftRight_eq_div_pow]
  omega

theorem controlOffset_eq (c : BitVec 4) (a : Addr) (h : inControlBlock c a = true) :
    controlOffset a = a.toNat - (c.toNat * 2 ^ 32 + 2 ^ 32 - 4096) := by
  rw [inControlBlock_iff] at h
  rw [controlOffset, BitVec.extractLsb'_toNat, Nat.shiftRight_zero]
  omega

/-- The first element of an ascending list that a test accepts. -/
theorem find?_ascending {n : Nat} (p : Fin n → Bool) (l : List (Fin n)) (hl : l.Pairwise (· < ·)) (r : Fin n) (hr : r ∈ l)
    (hp : p r = true) (first : ∀ q, q < r → ¬p q = true) : l.find? p = some r := by
  induction l with
  | nil => exact absurd hr List.not_mem_nil
  | cons a l ih =>
    obtain ⟨ha, hl⟩ := List.pairwise_cons.mp hl
    rcases List.mem_cons.mp hr with rfl | hr
    · exact List.find?_cons_of_pos hp
    · rw [List.find?_cons_of_neg (first a (ha r hr))]
      exact ih hl hr

theorem mem_allSlots : ∀ k : SlotId, k ∈ allSlots := by decide

/-- The address lies in the window of a valid ring (R12, R13). -/
def State.inWindow (s : State) (a : Addr) (r : RingId) : Prop :=
  s.rings[r].validity = .valid ∧ s.rings[r].profile.windowBase.toNat ≤ a.toNat ∧
    a.toNat < s.rings[r].profile.windowBase.toNat + s.rings[r].profile.berthCount * 2 ^ s.rings[r].profile.sizeExponent

theorem windowOf_test (s : State) (a : Addr) (r : RingId) : (s.rings[r].validity == .valid &&
    within a.toNat s.rings[r].profile.windowBase.toNat s.rings[r].profile.windowSize) = true ↔ s.inWindow a r := by
  rw [Bool.and_eq_true, beq_iff_eq, within_iff]
  rfl

theorem windowOf_first (s : State) (a : Addr) (r : RingId) (h : s.inWindow a r) (first : ∀ q, q < r → ¬s.inWindow a q) :
    s.windowOf a = some r :=
  find?_ascending _ allRings (by decide) r (mem_allRings r) ((windowOf_test s a r).mpr h) fun q hq hw =>
    first q hq ((windowOf_test s a q).mp hw)

theorem windowOf_none (s : State) (a : Addr) (h : ∀ r, ¬s.inWindow a r) : s.windowOf a = none :=
  List.find?_eq_none.mpr fun r _ hw => h r ((windowOf_test s a r).mp hw)

/-- The address lies in the report ring (R12). -/
theorem inReportRing_iff (s : State) (a : Addr) : s.inReportRing a = true ↔ ∃ d : DeviceProfile,
    s.control.device = some d ∧ d.reportBase.toNat ≤ a.toNat ∧ a.toNat < d.reportBase.toNat + 16 * d.reportEntries := by
  unfold State.inReportRing
  cases s.control.device with
  | none => simp
  | some d => simp [within_iff]

/-- The address lies in range n, which is in use (R137). -/
def State.inUsedRange (s : State) (a : Addr) (n : SlotId) : Prop :=
  ∃ (d : DeviceProfile) (g : ProtectRange), s.control.device = some d ∧ d.ranges[n] = some g ∧ g.base.toNat ≤ a.toNat ∧
    a.toNat < g.base.toNat + 4096 * g.size

theorem inRange_iff (d : DeviceProfile) (a : Addr) (n : SlotId) : d.inRange a n = true ↔
    ∃ g, d.ranges[n] = some g ∧ g.base.toNat ≤ a.toNat ∧ a.toNat < g.base.toNat + 4096 * g.size := by
  unfold DeviceProfile.inRange
  cases d.ranges[n] with
  | none => simp
  | some g => simp [within_iff]

theorem inUsedRange_iff {s : State} {d : DeviceProfile} (h : s.control.device = some d) (a : Addr) (n : SlotId) :
    s.inUsedRange a n ↔ d.inRange a n = true := by
  rw [inRange_iff]
  constructor
  · rintro ⟨d', g, hd, hg⟩
    cases h.symm.trans hd
    exact ⟨g, hg⟩
  · rintro ⟨g, hg⟩
    exact ⟨d, g, h, hg⟩

theorem protectRangeOf_first (s : State) (a : Addr) (n : SlotId) (h : s.inUsedRange a n)
    (first : ∀ m, m < n → ¬s.inUsedRange a m) : s.protectRangeOf a = some n := by
  obtain ⟨d, g, hd, hg⟩ := h
  rw [State.protectRangeOf, hd]
  exact find?_ascending _ allSlots (by decide) n (mem_allSlots n) ((inUsedRange_iff hd a n).mp ⟨d, g, hd, hg⟩)
    fun m hm hr => first m hm ((inUsedRange_iff hd a m).mpr hr)

theorem protectRangeOf_none (s : State) (a : Addr) (h : ∀ n, ¬s.inUsedRange a n) : s.protectRangeOf a = none := by
  unfold State.protectRangeOf
  cases hd : s.control.device with
  | none => rfl
  | some d => exact List.find?_eq_none.mpr fun n _ hr => h n ((inUsedRange_iff hd a n).mpr hr)

/-- Settles O15. -/
theorem wenLowRefusesGuardedWrites : Obligations.WenLowRefusesGuardedWrites := by
  refine ⟨fun i w s hi ht hw hg => ?_, fun s w => ⟨fun offset h => wenGuards_control s w offset h, wenGuards_window s w,
    fun _ => rfl, rfl, rfl, fun _ _ _ => rfl, fun _ => rfl, fun _ => rfl⟩, fun s a => ?_⟩
  · obtain ⟨e, c, refused, report, window, other⟩ := refuseDisabled_spec s (s.classify w.address) w
    have judged : s.judgeWrite w = s.refuseDisabled (s.classify w.address) w := by
      rw [State.judgeWrite, hw, hg]
      rfl
    refine ⟨s.refuseDisabled (s.classify w.address) w, ?_, ?_⟩
    · rw [exec_write i w s hi ht, judged, settleReleases_none]
      rw [refused]
    · rw [refused]
      exact ⟨rfl, rfl, rfl, rfl, rfl, rfl, rfl, rfl, rfl, report, window, other⟩
  · intro x base inControl inReport inWindow inRange
    have control : inControlBlock s.pins.ctlsel a = true ↔ inControl := inControlBlock_iff s.pins.ctlsel a
    refine ⟨fun hc => ?_, fun hc hr => ?_, fun hc hr => ⟨fun r hw first => ?_, fun hw => ⟨fun n hn first => ?_, fun hn => ?_⟩⟩⟩
    · rw [State.classify, if_pos (control.mpr hc), controlOffset_eq _ a (control.mpr hc)]
    · rw [State.classify, if_neg (fun h => hc (control.mp h)), if_pos ((inReportRing_iff s a).mpr hr)]
    · rw [State.classify, if_neg (fun h => hc (control.mp h)), if_neg (fun h => hr ((inReportRing_iff s a).mp h)),
        windowOf_first s a r hw first]
      rfl
    · rw [State.classify, if_neg (fun h => hc (control.mp h)), if_neg (fun h => hr ((inReportRing_iff s a).mp h)),
        windowOf_none s a hw, protectRangeOf_first s a n hn first]
    · rw [State.classify, if_neg (fun h => hc (control.mp h)), if_neg (fun h => hr ((inReportRing_iff s a).mp h)),
        windowOf_none s a hw, protectRangeOf_none s a hn]

end Sys2Proof.Machine
end

-- ==== Lead, tail and check code ====
section
/-! PROOFS. The lead and the tail of a record (R15, R16, R44) and the check code in its MSB-first form (R17). -/

namespace Sys2Proof.Machine

open Sys2Proof Sys2Proof.Config

/-! ## Lead and tail -/

theorem leadOf_eq (sync : BitVec 16) (w : WriteTx) : leadOf sync w =
    if 8 ≤ w.length ∧ byteAt w.data 1 ++ byteAt w.data 0 = sync then
      some ⟨byteAt w.data 3 ++ byteAt w.data 2, byteAt w.data 5 ++ byteAt w.data 4, (byteAt w.data 6).getLsbD 7,
        (byteAt w.data 6).extractLsb' 0 4⟩
    else none := by
  unfold leadOf
  congr 1
  rw [Bool.and_eq_true, decide_eq_true_eq, beq_iff_eq]
  rfl

/-- The tail word lies at the first multiple of 8 from the payload's end (R16). -/
theorem tailPosition_spec (n : BitVec 16) : payloadEnd n = 8 + n.toNat ∧ tailPosition n % 8 = 0 ∧
    8 + n.toNat ≤ tailPosition n ∧ tailPosition n < 8 + n.toNat + 8 ∧ recordEnd n = tailPosition n + 8 := by
  refine ⟨rfl, ?_, ?_, ?_, rfl⟩ <;> unfold tailPosition payloadEnd <;> omega

/-- What a run of bytes leaves in one place of the tail capture (R44). -/
def capturePlace (t offset : Nat) (bytes : List Byte) (j : Nat) (held : Option Byte) : Option Byte :=
  if offset ≤ t + j then (bytes[t + j - offset]?).or held else held

theorem capturePlace_eq (t offset : Nat) (bytes : List Byte) (j : Nat) (held : Option Byte) :
    capturePlace t offset bytes j held =
      if offset ≤ t + j ∧ t + j < offset + bytes.length then some (byteAt bytes (t + j - offset)) else held := by
  unfold capturePlace byteAt
  by_cases low : offset ≤ t + j
  · by_cases high : t + j < offset + bytes.length
    · have inside : t + j - offset < bytes.length := by omega
      rw [if_pos low, if_pos ⟨low, high⟩, List.getElem?_eq_getElem inside, List.getD_eq_getElem _ _ inside]
      rfl
    · rw [if_pos low, if_neg (fun h => high h.2), List.getElem?_eq_none (by omega)]
      rfl
  · rw [if_neg low, if_neg (fun h => low h.1)]

theorem getElem_captureTail (t offset : Nat) (bytes : List Byte) (old : TailCapture) (j : Fin 8) :
    (captureTail t offset bytes old)[j] = capturePlace t offset bytes j.val old[j] := by
  fin_cases j <;> rfl

theorem byteAt_tailBytes (held : TailCapture) (j : Fin 8) : byteAt (tailBytes held) j.val = (held[j] : Option Byte).getD 0 := by
  have inside : j.val < (tailBytes held).length := by
    rw [tailBytes, List.length_map, Vector.length_toList]
    exact j.isLt
  rw [byteAt, List.getD_eq_getElem _ _ inside]
  simp [tailBytes]

theorem tailCheckCode_bytes (held : TailCapture) : tailCheckCode held =
    (held[(3 : Fin 8)] : Option Byte).getD 0 ++ (held[(2 : Fin 8)] : Option Byte).getD 0 ++
      (held[(1 : Fin 8)] : Option Byte).getD 0 ++ (held[(0 : Fin 8)] : Option Byte).getD 0 := by
  rw [tailCheckCode, le32At_bytes, ← byteAt_tailBytes, ← byteAt_tailBytes, ← byteAt_tailBytes, ← byteAt_tailBytes]
  rfl

theorem tailPatternOk_iff (sync : BitVec 16) (held : TailCapture) : tailPatternOk sync held = true ↔
    (held[(5 : Fin 8)] : Option Byte).getD 0 ++ (held[(4 : Fin 8)] : Option Byte).getD 0 = sync ∧
      (held[(7 : Fin 8)] : Option Byte).getD 0 ++ (held[(6 : Fin 8)] : Option Byte).getD 0 = ~~~sync := by
  rw [tailPatternOk, Bool.and_eq_true, beq_iff_eq, beq_iff_eq, ← byteAt_tailBytes, ← byteAt_tailBytes, ← byteAt_tailBytes,
    ← byteAt_tailBytes]
  rfl

/-! ## The check code, MSB first -/

/-- One bit fed to a running check of polynomial 0x04C11DB7, highest bit first (R17). -/
def fedBit (v : Word) (bit : Bool) : Word := (v <<< 1) ^^^ if v.msb != bit then 0x04C11DB7 else 0

/-- The same step on a running check held lowest bit first, as the model holds it. -/
def fedLow (c : Word) (bit : Bool) : Word := (c >>> 1) ^^^ if c.getLsbD 0 != bit then crcPoly else 0

theorem reverse_xor (a b : Word) : (a ^^^ b).reverse = a.reverse ^^^ b.reverse := by
  ext i hi
  simp [BitVec.getElem_reverse]

theorem reverse_zero : (0 : Word).reverse = 0 := by
  ext i hi
  simp [BitVec.getElem_reverse]

theorem reverse_shiftRight_one (c : Word) : (c >>> 1).reverse = c.reverse <<< 1 := by
  apply BitVec.eq_of_getLsbD_eq
  intro i hi
  rw [BitVec.getLsbD_reverse, BitVec.getMsbD_eq_getLsbD, BitVec.getLsbD_ushiftRight, BitVec.getLsbD_shiftLeft, BitVec.getLsbD_reverse,
    BitVec.getMsbD_eq_getLsbD]
  rcases i with _ | i
  · rw [BitVec.getLsbD_of_ge _ _ (by omega)]
    rfl
  · rw [show 1 + (32 - 1 - (i + 1)) = 32 - 1 - (i + 1 - 1) by omega]
    simp [hi, show i < 32 by omega]

theorem reverse_crcPoly : crcPoly.reverse = 0x04C11DB7 := by
  have bits : ∀ k : Fin 32, crcPoly.getMsbD k.val = (0x04C11DB7#32).getLsbD k.val := by decide
  apply BitVec.eq_of_getLsbD_eq
  intro i hi
  rw [BitVec.getLsbD_reverse]
  exact bits ⟨i, hi⟩

theorem reverse_fedLow (c : Word) (bit : Bool) : (fedLow c bit).reverse = fedBit c.reverse bit := by
  rw [fedLow, fedBit, reverse_xor, reverse_shiftRight_one, BitVec.msb_reverse]
  cases c.getLsbD 0 != bit
  · rw [if_neg Bool.false_ne_true, if_neg Bool.false_ne_true, reverse_zero]
  · rw [if_pos rfl, if_pos rfl, reverse_crcPoly]

/-- A bit of the word that crcBit takes in at once stands for one fed by itself. -/
theorem crcBit_xor (c d : Word) : crcBit (c ^^^ d) = fedLow c (d.getLsbD 0) ^^^ (d >>> 1) := by
  unfold crcBit fedLow
  rw [BitVec.getLsbD_xor, BitVec.ushiftRight_xor_distrib]
  cases c.getLsbD 0 <;> cases d.getLsbD 0 <;> simp [BitVec.xor_assoc, BitVec.xor_comm (d >>> 1)]

theorem crcBit_iterate_xor (n : Nat) (c d : Word) : crcBit^[n] (c ^^^ d) =
    (List.range n).foldl (fun v k => fedLow v (d.getLsbD k)) c ^^^ (d >>> n) := by
  induction n with
  | zero => simp
  | succ n ih =>
    rw [Function.iterate_succ_apply', ih, crcBit_xor, List.range_succ, List.foldl_concat, ← BitVec.shiftRight_add]
    simp

theorem crcByte_eq (c : Word) (b : Byte) : crcByte c b = (List.range 8).foldl (fun v k => fedLow v (b.getLsbD k)) c := by
  have spent : b.setWidth 32 >>> 8 = 0#32 := by
    have := b.isLt
    bv_omega
  calc crcByte c b = crcBit^[8] (c ^^^ b.setWidth 32) := rfl
    _ = (List.range 8).foldl (fun v k => fedLow v ((b.setWidth 32).getLsbD k)) c := by
      rw [crcBit_iterate_xor, spent, BitVec.xor_zero]
    _ = (List.range 8).foldl (fun v k => fedLow v (b.getLsbD k)) c := by
      refine List.foldl_ext _ _ _ fun v k hk => ?_
      rw [BitVec.getLsbD_setWidth, decide_eq_true (by have := List.mem_range.mp hk; omega), Bool.true_and]

theorem reverse_foldl_fedLow (b : Byte) (l : List Nat) (c : Word) : (l.foldl (fun v k => fedLow v (b.getLsbD k)) c).reverse =
    l.foldl (fun v k => fedBit v (b.getLsbD k)) c.reverse := by
  induction l generalizing c with
  | nil => rfl
  | cons k l ih => rw [List.foldl_cons, ih, reverse_fedLow, List.foldl_cons]

/-- The running check is the reflection of one fed highest bit first, the bits of each byte from the lowest (R17). -/
theorem reverse_crcFeed (c : Word) (data : List Byte) : (crcFeed c data).reverse =
    data.foldl (fun v b => (List.range 8).foldl (fun v k => fedBit v (b.getLsbD k)) v) c.reverse := by
  induction data generalizing c with
  | nil => rfl
  | cons b data ih =>
    rw [List.foldl_cons, ← reverse_foldl_fedLow, ← crcByte_eq]
    exact ih (crcByte c b)

end Sys2Proof.Machine
end

-- ==== Publication and damage ====
section
/-! PROOFS. What a publication, a damage and a loss of lock leave (R30, R40, R64, R73), the producer code's debounce (R35), and
the judgment of a seal (R42, R49, R50). -/

namespace Sys2Proof.Machine

open Sys2Proof Sys2Proof.Config

/-! ## Counters -/

theorem Counter.index_injective {c d : Counter} (h : c.index = d.index) : c = d := by
  have inverse (c : Counter) : Counter.ofNat c.index.val = c := by cases c <;> rfl
  rw [← inverse c, h, inverse d]

theorem CounterSet.get_put_other (k : CounterSet) {c d : Counter} (v : Word) (h : c ≠ d) : (k.put d v).get c = k.get c := by
  have apart : d.index.val ≠ c.index.val := fun e => h (Counter.index_injective (Fin.ext e.symm))
  simp [CounterSet.get, CounterSet.put, Vector.getElem_set_ne, apart]

theorem CounterSet.get_increment_other (k : CounterSet) {c d : Counter} (h : c ≠ d) : (k.increment d).get c = k.get c := by
  unfold CounterSet.increment
  split
  · rfl
  · exact get_put_other k _ h

theorem CounterSet.get_raiseTo_other (k : CounterSet) {c d : Counter} (v : Word) (h : c ≠ d) :
    (k.raiseTo d v).get c = k.get c := by
  unfold CounterSet.raiseTo
  split
  · exact get_put_other k _ h
  · rfl

/-- A change of one ring's counter set that leaves a counter of it leaves that counter of every ring. -/
theorem counter_modCounters_kept (s : State) (r q : RingId) (f : CounterSet → CounterSet) (c : Counter)
    (h : ∀ k, (f k).get c = k.get c) : (s.modCounters r f).counter q c = s.counter q c := by
  unfold State.counter
  by_cases e : q = r
  · rw [e, counters_modCounters_same, h]
  · rw [counters_modCounters_other _ _ _ _ e]

theorem counter_count_other (s : State) (r q : RingId) {c d : Counter} (h : c ≠ d) : (s.count r d).counter q c = s.counter q c :=
  counter_modCounters_kept s r q _ c fun k => k.get_increment_other h

theorem counter_measureHold_other (s : State) (x : HoldPlace) (q : RingId) {c : Counter} (h : c ≠ .peakHoldTime) :
    (s.measureHold x).counter q c = s.counter q c :=
  counter_modCounters_kept s _ q _ c fun k => k.get_raiseTo_other _ h

theorem counter_releaseHolds_other (s : State) (p : Nat) (o : ReadOutcome) (q : RingId) {c : Counter} (h : c ≠ .peakHoldTime) :
    (s.releaseHolds p o).counter q c = s.counter q c :=
  foldl_keeps (·.counter q c) _ (fun s x => counter_measureHold_other s x q h) _ s

theorem counter_endHolds_other (s : State) (measured : Bool) (which : HoldPlace → Bool) (q : RingId) {c : Counter}
    (h : c ≠ .peakHoldTime) : (s.endHolds measured which).counter q c = s.counter q c := by
  refine foldl_keeps (·.counter q c) _ (fun s x => ?_) _ _
  cases measured with
  | true => exact counter_measureHold_other s x q h
  | false => rfl

theorem counter_congr {s t : State} (h : t.counters = s.counters) (q : RingId) (c : Counter) : t.counter q c = s.counter q c := by
  rw [State.counter, State.counter, h]

/-- An event adds 1 to its counter of its ring, which stays at its greatest value (R172). -/
theorem counter_count (s : State) (r q : RingId) (c d : Counter) : (s.count r d).counter q c =
    if q = r ∧ c = d then if s.counter q c = 0xFFFFFFFF then s.counter q c else s.counter q c + 1 else s.counter q c := by
  by_cases other : c = d
  · subst other
    by_cases elsewhere : q = r
    · subst elsewhere
      rw [if_pos ⟨rfl, rfl⟩, State.count, State.counter, counters_modCounters_same, CounterSet.increment]
      split
      · next full => exact (if_pos full).symm
      · next room =>
        refine Eq.trans ?_ (if_neg room).symm
        simp [CounterSet.get, CounterSet.put, State.counter]
    · rw [if_neg (fun h => elsewhere h.1), State.counter, State.count, counters_modCounters_other _ _ _ _ elsewhere, State.counter]
  · rw [if_neg (fun h => other h.2), counter_count_other s r q other]

theorem counter_count_congr {s t : State} (r q : RingId) (c d : Counter) (h : t.counter q c = s.counter q c) :
    (t.count r d).counter q c = (s.count r d).counter q c := by
  rw [counter_count, counter_count, h]

/-! ## Publication -/

/-- Between s and t berths were published or freed: only the berths in m change, the rings keep all but their occupancy, no
record is raised, and beside a peak no counter moves. -/
structure Publishes (m : Set Nat) (s t : State) : Prop where
  ring : ∀ q : RingId, ∃ n, t.rings[q] = { s.rings[q] with occupancy := n }
  report : t.report = s.report
  device : t.control.device = s.control.device
  now : t.timeBase.now = s.timeBase.now
  counter : ∀ (q : RingId) (c : Counter), c ≠ .peakHoldTime → t.counter q c = s.counter q c
  berth : ∀ p : Nat, p ∉ m → t.berth p = s.berth p

/-- The pool records that are STAGED. -/
def State.stagedRecords (s : State) : Set Nat := { p | (s.berth p).state = .staged }

section

variable {m : Set Nat} {s t : State}

theorem Publishes.refl (m : Set Nat) (s : State) : Publishes m s s :=
  ⟨fun q => ⟨s.rings[q].occupancy, rfl⟩, rfl, rfl, rfl, fun _ _ _ => rfl, fun _ _ => rfl⟩

theorem Publishes.trans {u : State} (h : Publishes m s t) (h' : Publishes m t u) : Publishes m s u where
  ring q := by
    obtain ⟨n, hn⟩ := h.ring q
    obtain ⟨n', hn'⟩ := h'.ring q
    exact ⟨n', by rw [hn', hn]⟩
  report := h'.report.trans h.report
  device := h'.device.trans h.device
  now := h'.now.trans h.now
  counter q c hc := (h'.counter q c hc).trans (h.counter q c hc)
  berth p hp := (h'.berth p hp).trans (h.berth p hp)

theorem Publishes.mono {m' : Set Nat} (h : Publishes m s t) (hm : m ⊆ m') : Publishes m' s t :=
  { h with berth := fun p hp => h.berth p fun h' => hp (hm h') }

theorem Publishes.tracking (h : Publishes m s t) (q : RingId) : t.rings[q].tracking = s.rings[q].tracking := by
  obtain ⟨n, hn⟩ := h.ring q
  rw [hn]

theorem Publishes.profile (h : Publishes m s t) (q : RingId) : t.rings[q].profile = s.rings[q].profile := by
  obtain ⟨n, hn⟩ := h.ring q
  rw [hn]

theorem Publishes.poolIndex (h : Publishes m s t) (q : RingId) (i : Nat) : t.poolIndex q i = s.poolIndex q i := by
  obtain ⟨n, hn⟩ := h.ring q
  rw [State.poolIndex, hn]
  rfl

theorem publishes_modBerth (s : State) (p : Nat) (f : Berth → Berth) : Publishes {p} s (s.modBerth p f) where
  ring q := ⟨s.rings[q].occupancy, by rw [rings_modBerth]⟩
  report := report_modBerth s p f
  device := by rw [control_modBerth]
  now := by rw [timeBase_modBerth]
  counter q c _ := counter_congr (counters_modBerth s p f) q c
  berth q hq := berth_modBerth_other s p q f hq

theorem publishes_occupancyDown (s : State) (r : RingId) : Publishes ∅ s (s.occupancyDown r) where
  ring q := by
    by_cases e : q = r
    · subst e
      exact ⟨_, ring_modRing_same s q _⟩
    · exact ⟨s.rings[q].occupancy, ring_modRing_other s r q _ e⟩
  report := rfl
  device := rfl
  now := rfl
  counter _ _ _ := rfl
  berth _ _ := rfl

theorem publishes_releaseHolds (s : State) (p : Nat) (o : ReadOutcome) : Publishes ∅ s (s.releaseHolds p o) := by
  obtain ⟨k, hk⟩ := releaseHolds_spec s p o
  have counters := fun q c (hc : c ≠ Counter.peakHoldTime) => counter_releaseHolds_other s p o q hc
  rw [hk] at counters ⊢
  exact ⟨fun q => ⟨s.rings[q].occupancy, rfl⟩, rfl, rfl, rfl, counters, fun _ _ => rfl⟩

theorem publishes_formPending (s : State) (r : RingId) (i : Nat) : Publishes {s.poolIndex r i} s (s.formPending r i) := by
  unfold State.formPending
  dsimp only
  split
  · exact (publishes_modBerth s _ _).trans ((publishes_occupancyDown _ r).mono (Set.empty_subset _))
  · exact publishes_modBerth s _ _

theorem publishes_publish (s : State) (r : RingId) (i : Nat) : Publishes {s.poolIndex r i} s (s.publish r i) := by
  have ready := publishes_modBerth s (s.poolIndex r i) fun b => { b with state := .ready }
  have formed := publishes_formPending (s.modBerth (s.poolIndex r i) fun b => { b with state := .ready }) r i
  rw [ready.poolIndex] at formed
  exact (ready.trans formed).trans ((publishes_releaseHolds _ _ _).mono (Set.empty_subset _))

theorem publishes_publishStaged (s : State) (r : RingId) (i : Nat) : Publishes s.stagedRecords s (s.publishStaged r i) := by
  unfold State.publishStaged
  split
  · next staged => exact (publishes_publish s r i).mono (Set.singleton_subset_iff.mpr staged)
  · exact Publishes.refl _ s

/-- What was not STAGED is still not: only STAGED berths were published. -/
theorem Publishes.stagedRecords (h : Publishes s.stagedRecords s t) : t.stagedRecords ⊆ s.stagedRecords := by
  intro p hp
  by_contra hs
  exact hs ((congrArg Berth.state (h.berth p hs)).symm.trans hp)

theorem publishes_foldl_publishStaged (r : RingId) (l : List Nat) (s : State) :
    Publishes s.stagedRecords s (l.foldl (fun s i => s.publishStaged r i) s) := by
  induction l generalizing s with
  | nil => exact Publishes.refl _ s
  | cons i l ih =>
    have first := publishes_publishStaged s r i
    exact first.trans ((ih _).mono first.stagedRecords)

theorem publishes_publishGroups (s : State) (r : RingId) (bases : List Seq) : Publishes s.stagedRecords s (s.publishGroups r bases) :=
  publishes_foldl_publishStaged r _ s

theorem publishes_groupTest (s : State) (r : RingId) : Publishes s.stagedRecords s (s.groupTest r) := by
  unfold State.groupTest
  split
  · exact publishes_publishGroups s r _
  · exact Publishes.refl _ s

end

/-- A berth once its pending set is formed: FREE when the set is empty (R86). -/
theorem ringBerth_formPending (s : State) (r : RingId) (i : Nat) (hp : s.poolIndex r i < 2048) :
    (s.formPending r i).berth (s.poolIndex r i) = s.rings[r].published (s.ringBerth r i).state (s.ringBerth r i) := by
  unfold State.formPending RingRecord.published
  dsimp only
  split
  · exact berth_modBerth_same s _ _ hp
  · exact berth_modBerth_same s _ _ hp

theorem state_published_ne (g : RingRecord) {x y : BerthState} (b : Berth) (hx : x ≠ y) (hy : BerthState.free ≠ y) :
    (g.published x b).state ≠ y := by
  unfold RingRecord.published
  split
  · exact hy
  · exact hx

/-! ## Damage -/

/-- A berth that is marked DAMAGED, its record raised and counted (step 1 and 2 of R40). -/
def State.markDamaged (r : RingId) (i : Nat) (cause : DamageCause) (s : State) : State :=
  ((s.modBerth (s.poolIndex r i) fun b => { b with damage := some cause, state := .damaged }).raise
    (damagedRecord r i cause (s.ringBerth r i))).count r .berthsDamaged

/-- What a damage of a FILLING berth leaves (R40). -/
structure Damages (r : RingId) (i : Nat) (cause : DamageCause) (s t : State) : Prop where
  ring : ∀ q : RingId, ∃ n, t.rings[q] = { s.rings[q] with occupancy := n }
  report : t.report = (s.raise (damagedRecord r i cause (s.ringBerth r i))).report
  counter : ∀ (q : RingId) (c : Counter), c ≠ .peakHoldTime → t.counter q c = (s.count r .berthsDamaged).counter q c
  damaged : t.berth (s.poolIndex r i) = s.rings[r].published .damaged { s.ringBerth r i with damage := some cause }
  others : ∀ p : Nat, p ≠ s.poolIndex r i → (s.berth p).state ≠ .staged → t.berth p = s.berth p

/-- A damage of a FILLING berth but for the group completion test that follows (steps 1 to 5 of R40). -/
def State.damageOnly (r : RingId) (i : Nat) (cause : DamageCause) (s : State) : State :=
  ((s.markDamaged r i cause).formPending r i).releaseHolds (s.poolIndex r i) (readOutcome s.rings[r] .damaged)

theorem damage_eq (s : State) (r : RingId) (i : Nat) (cause : DamageCause) (hf : (s.ringBerth r i).state = .filling) :
    s.damage r i cause = (s.damageOnly r i ((s.ringBerth r i).damage.getD cause)).groupTest r := by
  have damaged : (s.ringBerth r i).state ≠ .damaged := hf ▸ nofun
  have checking : (s.ringBerth r i).state ≠ .checking := hf ▸ nofun
  unfold State.damage State.damageOnly State.markDamaged damagedRecord
  dsimp only
  rw [if_neg damaged, if_neg checking]

theorem rings_markDamaged (s : State) (r : RingId) (i : Nat) (cause : DamageCause) : (s.markDamaged r i cause).rings = s.rings := by
  rw [State.markDamaged, rings_count, rings_raise, rings_modBerth]

theorem poolIndex_markDamaged (s : State) (r q : RingId) (i j : Nat) (cause : DamageCause) :
    (s.markDamaged r i cause).poolIndex q j = s.poolIndex q j := by
  rw [State.poolIndex, State.poolIndex, rings_markDamaged]

theorem berth_markDamaged (s : State) (r : RingId) (i : Nat) (cause : DamageCause) (p : Nat) :
    (s.markDamaged r i cause).berth p =
      (s.modBerth (s.poolIndex r i) fun b => { b with damage := some cause, state := .damaged }).berth p :=
  berth_congr _ _ p (by rw [State.markDamaged, pool_count, pool_raise])

theorem report_markDamaged (s : State) (r : RingId) (i : Nat) (cause : DamageCause) :
    (s.markDamaged r i cause).report = (s.raise (damagedRecord r i cause (s.ringBerth r i))).report := by
  rw [State.markDamaged, report_count]
  exact report_raise_congr _ (by rw [control_modBerth]) (report_modBerth _ _ _) (by rw [timeBase_modBerth])

theorem counters_markDamaged (s : State) (r : RingId) (i : Nat) (cause : DamageCause) :
    (s.markDamaged r i cause).counters = (s.count r .berthsDamaged).counters := by
  rw [State.markDamaged, State.count, counters_modCounters, counters_raise, counters_modBerth]
  rfl

theorem publishes_damageOnly (s : State) (r : RingId) (i : Nat) (cause : DamageCause) :
    Publishes {s.poolIndex r i} (s.markDamaged r i cause) (s.damageOnly r i cause) := by
  have formed := publishes_formPending (s.markDamaged r i cause) r i
  rw [poolIndex_markDamaged] at formed
  exact formed.trans ((publishes_releaseHolds _ _ _).mono (Set.empty_subset _))

theorem berth_damageOnly (s : State) (r : RingId) (i : Nat) (cause : DamageCause) (hp : s.poolIndex r i < 2048) :
    (s.damageOnly r i cause).berth (s.poolIndex r i) =
      s.rings[r].published .damaged { s.ringBerth r i with damage := some cause } := by
  have marked : (s.markDamaged r i cause).ringBerth r i = { s.ringBerth r i with damage := some cause, state := .damaged } := by
    rw [State.ringBerth, poolIndex_markDamaged, berth_markDamaged, berth_modBerth_same _ _ _ hp]
    rfl
  have formed := ringBerth_formPending (s.markDamaged r i cause) r i (by rwa [poolIndex_markDamaged])
  rw [poolIndex_markDamaged, marked, rings_markDamaged] at formed
  exact ((publishes_releaseHolds _ _ _).berth _ (Set.notMem_empty _)).trans formed

theorem berth_damageOnly_other (s : State) (r : RingId) (i : Nat) (cause : DamageCause) (p : Nat) (hp : p ≠ s.poolIndex r i) :
    (s.damageOnly r i cause).berth p = s.berth p := by
  rw [(publishes_damageOnly s r i cause).berth p hp, berth_markDamaged, berth_modBerth_other _ _ _ _ hp]

theorem damages_damage (s : State) (r : RingId) (i : Nat) (cause : DamageCause) (hf : (s.ringBerth r i).state = .filling) :
    Damages r i ((s.ringBerth r i).damage.getD cause) s (s.damage r i cause) := by
  have hp : s.poolIndex r i < 2048 := berth_lt_of_live s _ fun free => nomatch hf.symm.trans free
  rw [damage_eq s r i cause hf]
  generalize (s.ringBerth r i).damage.getD cause = named
  have here := berth_damageOnly s r i named hp
  have tested := publishes_groupTest (s.damageOnly r i named) r
  have whole := ((publishes_damageOnly s r i named).mono Set.subset_union_left).trans
    (tested.mono (Set.subset_union_right (s := {s.poolIndex r i})))
  refine ⟨fun q => ?_, ?_, fun q c hc => ?_, ?_, fun p hp hs => ?_⟩
  · obtain ⟨n, hn⟩ := whole.ring q
    exact ⟨n, by rw [hn, rings_markDamaged]⟩
  · rw [whole.report, report_markDamaged]
  · rw [whole.counter q c hc]
    exact counter_congr (counters_markDamaged s r i named) q c
  · rw [tested.berth _ fun staged => ?_, here]
    exact state_published_ne (x := .damaged) (y := .staged) _ _ nofun nofun ((congrArg Berth.state here).symm.trans staged)
  · have kept := berth_damageOnly_other s r i named p hp
    rw [tested.berth p fun staged => hs ((congrArg Berth.state kept).symm.trans staged), kept]

end Sys2Proof.Machine
end

-- ==== Loss of lock and seal ====
section
/-! PROOFS. What a loss of lock spares (R30), the producer code's debounce (R35), and the judgment of a seal (R42, R49, R50). -/

namespace Sys2Proof.Machine

open Sys2Proof Sys2Proof.Config

/-! ## Loss of lock -/

/-- Between s and t only FILLING and STAGED berths changed, and no counters beside BERTHS_DAMAGED and a peak. -/
structure Spares (s t : State) : Prop where
  berth : ∀ p : Nat, (s.berth p).state ≠ .filling → (s.berth p).state ≠ .staged → t.berth p = s.berth p
  counter : ∀ (q : RingId) (c : Counter), c ≠ .peakHoldTime → c ≠ .berthsDamaged → t.counter q c = s.counter q c

section

variable {s t u : State}

theorem Spares.refl (s : State) : Spares s s := ⟨fun _ _ _ => rfl, fun _ _ _ _ => rfl⟩

theorem Spares.trans (h : Spares s t) (h' : Spares t u) : Spares s u where
  berth p hf hs := by
    have kept := h.berth p hf hs
    rw [h'.berth p (kept ▸ hf) (kept ▸ hs), kept]
  counter q c hp hd := (h'.counter q c hp hd).trans (h.counter q c hp hd)

/-- A change outside the pool and the counters. -/
theorem Spares.outside (h : Spares s t) (hp : u.pool = t.pool) (hc : u.counters = t.counters) : Spares s u :=
  h.trans ⟨fun p _ _ => berth_congr t u p hp, fun q c _ _ => counter_congr hc q c⟩

theorem Publishes.spares (h : Publishes s.stagedRecords s t) : Spares s t :=
  ⟨fun p _ hs => h.berth p hs, fun q c hp _ => h.counter q c hp⟩

theorem Damages.spares {r : RingId} {i : Nat} {cause : DamageCause} (h : Damages r i cause s t)
    (hf : (s.ringBerth r i).state = .filling) : Spares s t where
  berth p hp hs := h.others p (fun e => hp (e ▸ hf)) hs
  counter q c hp hd := (h.counter q c hp).trans (counter_count_other s r q hd)

theorem fillingCurrent_filling {r : RingId} {i : Nat} (h : s.fillingCurrent r = some i) : (s.ringBerth r i).state = .filling := by
  unfold State.fillingCurrent at h
  split at h
  · split at h
    · next filling => exact Option.some.inj h ▸ filling
    · exact nomatch h
  · exact nomatch h

theorem spares_abandonCurrent (s : State) (r : RingId) : Spares s (s.abandonCurrent r) := by
  unfold State.abandonCurrent
  split
  · next i current =>
    have filling := fillingCurrent_filling current
    exact (damages_damage s r i _ filling).spares filling
  · exact Spares.refl s

theorem spares_publishAllStaged (s : State) (r : RingId) : Spares s (s.publishAllStaged r) :=
  (publishes_publishGroups s r _).spares

theorem spares_endHolds (s : State) (measured : Bool) (which : HoldPlace → Bool) : Spares s (s.endHolds measured which) := by
  obtain ⟨k, hk, -⟩ := endHolds_spec s measured which
  refine ⟨fun p _ _ => berth_congr _ _ p (by rw [hk]), fun q c hp _ => counter_endHolds_other s measured which q hp⟩

theorem Spares.modTracking (h : Spares s t) (r : RingId) (f : Tracking → Tracking) : Spares s (t.modTracking r f) :=
  h.outside (pool_modTracking t r f) (counters_modTracking t r f)

/-- Steps 1 to 3 of a loss of lock (R30): the lock is remembered, the current berth abandoned and what is STAGED published. -/
def State.searching (r : RingId) (s : State) : State :=
  (((s.modTracking r Tracking.rememberLock).abandonCurrent r).publishAllStaged r).modTracking r Tracking.toSearch

/-- Steps 1 to 5 of a loss of lock (R30). -/
def State.losingLock (r : RingId) (s : State) : State :=
  ((s.searching r).endHolds true ((s.searching r).unreadyHold r)).modTracking r
    fun t => { t.toHunt with quietTimer := none, quietFlag := false }

theorem spares_searching (s : State) (r : RingId) : Spares s (s.searching r) :=
  Spares.modTracking ((((Spares.refl s).modTracking r Tracking.rememberLock).trans (spares_abandonCurrent _ r)).trans
    (spares_publishAllStaged _ r)) r Tracking.toSearch

theorem spares_losingLock (s : State) (r : RingId) : Spares s (s.losingLock r) :=
  ((spares_searching s r).trans (spares_endHolds _ true _)).modTracking r _

theorem loseLock_eq (s : State) (r : RingId) (cause : LossCause) : s.loseLock r cause = ((s.losingLock r).raise
    { kind := .lockLost, ring := ringField r, berth := berthField (s.rings[r].tracking.position.getD 0)
      seq := s.rings[r].tracking.expected.getD 0, detail := cause.code }).count r .lockLosses := rfl

theorem align_loseLock (s : State) (r : RingId) (cause : LossCause) : (s.loseLock r cause).rings[r].tracking.align = .hunt := by
  rw [loseLock_eq, rings_count, rings_raise, State.losingLock, tracking_modTracking]
  rfl

theorem berth_loseLock (s : State) (r : RingId) (cause : LossCause) (p : Nat) (hf : (s.berth p).state ≠ .filling)
    (hs : (s.berth p).state ≠ .staged) : (s.loseLock r cause).berth p = s.berth p := by
  rw [loseLock_eq, berth_congr (s.losingLock r) _ p (by rw [pool_count, pool_raise])]
  exact (spares_losingLock s r).berth p hf hs

theorem counter_loseLock (s : State) (r q : RingId) (cause : LossCause) (c : Counter) (hp : c ≠ .peakHoldTime)
    (hd : c ≠ .berthsDamaged) : (s.loseLock r cause).counter q c = (s.count r .lockLosses).counter q c :=
  counter_count_congr r q c _ ((counter_congr (counters_raise _ _) q c).trans ((spares_losingLock s r).counter q c hp hd))

theorem poolIndex_loseLock (s : State) (r q : RingId) (cause : LossCause) (i : Nat) :
    (s.loseLock r cause).poolIndex q i = s.poolIndex q i :=
  poolIndex_of_layout ((ringMove_loseLock s r cause).layout q) i

end

/-! ## Producer code -/

/-- What a good seal's producer code k leaves of the debounce (R35). -/
def Tracking.debounced (k : BitVec 4) (t : Tracking) : Tracking :=
  if k = t.code then { t with codeCandidate := none }
  else if t.codeCandidate = some k then t.takeCode k
  else { t with codeCandidate := some k }

theorem modTracking_congr (s : State) (r : RingId) {f g : Tracking → Tracking}
    (h : f s.rings[r].tracking = g s.rings[r].tracking) : s.modTracking r f = s.modTracking r g := by
  rw [State.modTracking, State.modTracking, State.modRing, State.modRing, h]

theorem debounceCode_spec (s : State) (r : RingId) (i : Nat) (k : BitVec 4) : ∃ e,
    s.debounceCode r i k = { s.modTracking r (Tracking.debounced k) with report := e } ∧
      e = (if k ≠ s.rings[r].tracking.code ∧ s.rings[r].tracking.codeCandidate = some k then
        s.raise { kind := .producerCode, ring := ringField r, berth := berthField i, seq := seqField (s.ringBerth r i)
                  detail := k.setWidth 8 }
      else s).report := by
  have record {e : Record} {t : State} (ht : t = s.modTracking r (Tracking.debounced k)) :
      t.raise e = { s.modTracking r (Tracking.debounced k) with report := (s.raise e).report } := by
    rw [raise_eq, ht, report_raise_congr (s := s) (t := s.modTracking r (Tracking.debounced k)) e rfl rfl rfl]
  unfold State.debounceCode
  dsimp only
  by_cases same : k = s.rings[r].tracking.code
  · refine ⟨s.report, ?_, by rw [if_neg (fun h => h.1 same)]⟩
    rw [if_pos same]
    exact modTracking_congr s r (if_pos same).symm
  · by_cases twice : s.rings[r].tracking.codeCandidate = some k
    · refine ⟨_, ?_, rfl⟩
      rw [if_neg same, if_pos twice, if_pos ⟨same, twice⟩]
      exact record (modTracking_congr s r ((if_neg same).trans (if_pos twice)).symm)
    · refine ⟨s.report, ?_, by rw [if_neg (fun h => twice h.2)]⟩
      rw [if_neg same, if_neg twice]
      exact modTracking_congr s r ((if_neg same).trans (if_neg twice)).symm

/-! ## Seals -/

theorem ringBerth_congr {s t : State} (r : RingId) (i : Nat) (hi : t.poolIndex r i = s.poolIndex r i)
    (hb : t.berth (s.poolIndex r i) = s.berth (s.poolIndex r i)) : t.ringBerth r i = s.ringBerth r i := by
  rw [State.ringBerth, hi, hb]
  rfl

/-- A failed seal: the berth's damage, with the quiet flag cleared (R49, R50). -/
structure FailedSeal (r : RingId) (i : Nat) (cause : DamageCause) (s t : State) : Prop where
  berth : t.ringBerth r i = s.rings[r].published .damaged { s.ringBerth r i with damage := some cause }
  index : t.poolIndex r i = s.poolIndex r i
  tracking : t.rings[r].tracking = { s.rings[r].tracking with quietFlag := false }
  profile : t.rings[r].profile = s.rings[r].profile
  report : t.report = (s.raise (damagedRecord r i cause (s.ringBerth r i))).report
  counter : ∀ c : Counter, c ≠ .peakHoldTime → t.counter r c = (s.count r .berthsDamaged).counter r c

theorem failedSeal (s : State) (r : RingId) (i : Nat) (cause : DamageCause) (hf : (s.ringBerth r i).state = .filling)
    (hd : (s.ringBerth r i).damage = none) : FailedSeal r i cause s ((s.damage r i cause).clearQuietFlag r) := by
  have damages := damages_damage s r i cause hf
  rw [hd, Option.getD_none] at damages
  obtain ⟨n, ring⟩ := damages.ring r
  have cleared : ((s.damage r i cause).clearQuietFlag r).rings[r] =
      { s.rings[r] with occupancy := n, tracking := { s.rings[r].tracking with quietFlag := false } } := by
    rw [State.clearQuietFlag, State.modTracking, ring_modRing_same, ring]
  have index : ((s.damage r i cause).clearQuietFlag r).poolIndex r i = s.poolIndex r i := by
    rw [State.poolIndex, cleared]
    rfl
  refine ⟨?_, index, by rw [cleared], by rw [cleared], damages.report, fun c hc => damages.counter r c hc⟩
  rw [State.ringBerth, index]
  exact damages.damaged

theorem watchExcess_eq (s : State) (r : RingId) : s.watchExcess r =
    if s.rings[r].profile.reframeOnExcess = true ∧ s.rings[r].profile.excessThreshold ≠ 0 ∧
        s.rings[r].tracking.align = .locked ∧ s.rings[r].profile.excessThreshold ≤ (s.counter r .checkErrors).toNat then
      s.loseLock r .excessCheck
    else s := by
  unfold State.watchExcess
  dsimp only
  congr 1
  rw [Bool.and_eq_true, Bool.and_eq_true, Bool.and_eq_true, bne_iff_ne, beq_iff_eq, decide_eq_true_eq, and_assoc, and_assoc]

theorem judgeClaim_eq (s : State) (r : RingId) (b : Nat) (q : Seq) (l : Lead) (reclaimed : Bool)
    (hp : (s.ringBerth r b).payload = some l.payload) : s.judgeClaim r ⟨b, q, some l, reclaimed⟩ =
      if s.rings[r].profile.berthSize - 16 < l.payload.toNat then s.damage r b .lengthError
      else if recordEnd l.payload ≤ (s.ringBerth r b).fillCursor then s.seal r b else s := by
  have complete : s.sealIfComplete r b = if recordEnd l.payload ≤ (s.ringBerth r b).fillCursor then s.seal r b else s := by
    unfold State.sealIfComplete
    dsimp only
    rw [hp]
  rw [← complete]
  rfl

section

variable {s : State} {r : RingId} {b : Nat}

theorem seal_of_badTail (tail : tailPatternOk s.rings[r].profile.sync s.rings[r].tailCapture = false) :
    s.seal r b = (s.damage r b .tailError).clearQuietFlag r := by
  unfold State.seal
  dsimp only
  rw [tail]
  rfl

theorem seal_of_badCode (tail : tailPatternOk s.rings[r].profile.sync s.rings[r].tailCapture = true)
    (code : crcComplete (s.ringBerth r b).check ≠ tailCheckCode s.rings[r].tailCapture) :
    s.seal r b = (((s.count r .checkErrors).damage r b .checkError).clearQuietFlag r).watchExcess r := by
  unfold State.seal
  dsimp only
  rw [tail, if_neg (by decide), if_pos code]

/-- The berth of a good seal and the count of it, before its producer code (R49, R50). -/
def State.settle (r : RingId) (b : Nat) (s : State) : State :=
  ((s.modBerth (s.poolIndex r b) fun c => { c with state := .settling, check := crcComplete (s.ringBerth r b).check }).count r
    .berthsSealed).clearQuietFlag r

theorem seal_of_good (tail : tailPatternOk s.rings[r].profile.sync s.rings[r].tailCapture = true)
    (code : crcComplete (s.ringBerth r b).check = tailCheckCode s.rings[r].tailCapture) :
    s.seal r b = (s.settle r b).debounceCode r b ((s.ringBerth r b).code.getD 0) := by
  unfold State.seal
  dsimp only
  rw [tail, if_neg (by decide), if_neg (fun differ => differ code)]
  rfl

theorem ring_settle (s : State) (r : RingId) (b : Nat) : (s.settle r b).rings[r] =
    { s.rings[r] with tracking := { s.rings[r].tracking with quietFlag := false } } := by
  rw [State.settle, State.clearQuietFlag, State.modTracking, ring_modRing_same, rings_count, rings_modBerth]

theorem ring_settle_other (s : State) (r q : RingId) (b : Nat) (h : q ≠ r) : (s.settle r b).rings[q] = s.rings[q] := by
  rw [State.settle, State.clearQuietFlag, State.modTracking, ring_modRing_other _ _ _ _ h, rings_count, rings_modBerth]

theorem ringBerth_settle (s : State) (r : RingId) (b : Nat) (hp : s.poolIndex r b < 2048) : (s.settle r b).ringBerth r b =
    { s.ringBerth r b with state := .settling, check := crcComplete (s.ringBerth r b).check } := by
  have index : (s.settle r b).poolIndex r b = s.poolIndex r b := by
    rw [State.poolIndex, ring_settle]
    rfl
  rw [State.ringBerth, index]
  exact berth_modBerth_same s _ _ hp

theorem counters_settle (s : State) (r : RingId) (b : Nat) : (s.settle r b).counters = (s.count r .berthsSealed).counters := by
  rw [State.settle, State.clearQuietFlag, counters_modTracking, State.count, counters_modCounters, counters_modBerth]
  rfl

theorem control_settle (s : State) (r : RingId) (b : Nat) : (s.settle r b).control = s.control := control_modBerth s _ _

theorem report_settle (s : State) (r : RingId) (b : Nat) : (s.settle r b).report = s.report := report_modBerth s _ _

theorem timeBase_settle (s : State) (r : RingId) (b : Nat) : (s.settle r b).timeBase = s.timeBase := timeBase_modBerth s _ _

theorem berth_settle_other (s : State) (r : RingId) (b p : Nat) (hp : p ≠ s.poolIndex r b) : (s.settle r b).berth p = s.berth p :=
  berth_modBerth_other s _ p _ hp

end

end Sys2Proof.Machine
end

-- ==== The outcomes of a seal ====
section
/-! PROOFS. The three outcomes of a seal (R33, R35, R49, R50). -/

namespace Sys2Proof.Machine

open Sys2Proof Sys2Proof.Config

theorem seal_tailError (s : State) (r : RingId) (b : Nat) (hf : (s.ringBerth r b).state = .filling)
    (hd : (s.ringBerth r b).damage = none) (tail : tailPatternOk s.rings[r].profile.sync s.rings[r].tailCapture = false) :
    let old := s.ringBerth r b
    let t := s.seal r b
    t.ringBerth r b = s.rings[r].published .damaged { old with damage := some .tailError } ∧
      t.rings[r].tracking = { s.rings[r].tracking with quietFlag := false } ∧
      t.report = (s.raise (damagedRecord r b .tailError old)).report ∧
      t.counter r .checkErrors = s.counter r .checkErrors ∧
      t.counter r .berthsDamaged = (s.count r .berthsDamaged).counter r .berthsDamaged := by
  intro old t
  have failed := failedSeal s r b .tailError hf hd
  rw [← seal_of_badTail tail] at failed
  exact ⟨failed.berth, failed.tracking, failed.report,
    (failed.counter .checkErrors nofun).trans (counter_count_other s r r nofun), failed.counter .berthsDamaged nofun⟩

theorem seal_checkError (s : State) (r : RingId) (b : Nat) (hf : (s.ringBerth r b).state = .filling)
    (hd : (s.ringBerth r b).damage = none) (tail : tailPatternOk s.rings[r].profile.sync s.rings[r].tailCapture = true)
    (code : crcComplete (s.ringBerth r b).check ≠ tailCheckCode s.rings[r].tailCapture) :
    let g := s.rings[r]
    let old := s.ringBerth r b
    let t := s.seal r b
    let errors := (s.count r .checkErrors).counter r .checkErrors
    let excess : Prop := g.profile.reframeOnExcess = true ∧ g.profile.excessThreshold ≠ 0 ∧
      g.tracking.align = .locked ∧ g.profile.excessThreshold ≤ errors.toNat
    t.ringBerth r b = g.published .damaged { old with damage := some .checkError } ∧
      t.counter r .checkErrors = errors ∧
      (¬excess → t.rings[r].tracking = { g.tracking with quietFlag := false } ∧
        t.report = (s.raise (damagedRecord r b .checkError old)).report) ∧
      (excess → t.rings[r].tracking.align = .hunt ∧
        t.counter r .lockLosses = (s.count r .lockLosses).counter r .lockLosses) := by
  intro g old t errors excess
  have failed := failedSeal (s.count r .checkErrors) r b .checkError hf hd
  generalize hu : ((s.count r .checkErrors).damage r b .checkError).clearQuietFlag r = u at failed
  have counted : u.counter r .checkErrors = errors :=
    (failed.counter .checkErrors nofun).trans (counter_count_other _ r r nofun)
  have watched : t = if excess then u.loseLock r .excessCheck else u := by
    have watch := watchExcess_eq u r
    rw [failed.profile, failed.tracking, counted] at watch
    exact (seal_of_badCode tail code).trans (hu ▸ watch)
  by_cases exceeds : excess
  · rw [if_pos exceeds] at watched
    have notFilling : (u.ringBerth r b).state ≠ .filling := by
      rw [failed.berth]
      exact state_published_ne _ _ nofun nofun
    have notStaged : (u.ringBerth r b).state ≠ .staged := by
      rw [failed.berth]
      exact state_published_ne _ _ nofun nofun
    have losses : u.counter r .lockLosses = s.counter r .lockLosses :=
      (failed.counter .lockLosses nofun).trans
      ((counter_count_other (c := .lockLosses) (d := .berthsDamaged) _ r r nofun).trans
        (counter_count_other (c := .lockLosses) (d := .checkErrors) s r r nofun))
    have berth : t.ringBerth r b = u.ringBerth r b := by
      rw [watched]
      exact ringBerth_congr r b (poolIndex_loseLock u r r .excessCheck b) (berth_loseLock u r .excessCheck _ notFilling notStaged)
    refine ⟨berth.trans failed.berth, ?_, fun h => absurd exceeds h, fun _ => ⟨?_, ?_⟩⟩
    · rw [watched, counter_loseLock u r r .excessCheck .checkErrors nofun nofun,
        counter_count_other (c := .checkErrors) (d := .lockLosses) u r r nofun, counted]
    · rw [watched, align_loseLock u r .excessCheck]
    · rw [watched, counter_loseLock u r r .excessCheck .lockLosses nofun nofun, counter_count_congr r r _ _ losses]
  · rw [if_neg exceeds] at watched
    rw [watched]
    exact ⟨failed.berth, counted, fun _ => ⟨failed.tracking, failed.report.trans (report_raise_congr _ rfl rfl rfl)⟩,
      fun h => absurd h exceeds⟩

theorem seal_settles (s : State) (r : RingId) (b : Nat) (hp : s.poolIndex r b < 2048)
    (tail : tailPatternOk s.rings[r].profile.sync s.rings[r].tailCapture = true)
    (good : crcComplete (s.ringBerth r b).check = tailCheckCode s.rings[r].tailCapture) :
    let g := s.rings[r]
    let old := s.ringBerth r b
    let t := s.seal r b
    let code : BitVec 4 := old.code.getD 0
    let k : Tracking := { g.tracking with quietFlag := false }
    t.ringBerth r b = { old with state := .settling, check := crcComplete old.check } ∧
      (∀ p : Nat, p ≠ s.poolIndex r b → t.berth p = s.berth p) ∧
      t.rings[r] = { g with tracking := k.debounced code } ∧
      (∀ q : RingId, q ≠ r → t.rings[q] = s.rings[q]) ∧ t.counters = (s.count r .berthsSealed).counters ∧
      t.report =
        (if code ≠ k.code ∧ k.codeCandidate = some code then
          s.raise { kind := .producerCode, ring := ringField r, berth := berthField b, seq := seqField old
                    detail := code.setWidth 8 }
        else s).report ∧
      t.holds = s.holds ∧ t.verify = s.verify ∧ t.port = s.port ∧ t.responses = s.responses := by
  intro g old t code k
  have ring := ring_settle s r b
  have berth := ringBerth_settle s r b hp
  obtain ⟨e, debounced, record⟩ := debounceCode_spec (s.settle r b) r b code
  have settled : t = { (s.settle r b).modTracking r (Tracking.debounced code) with report := e } :=
    (seal_of_good tail good).trans debounced
  rw [ring, berth] at record
  have rings (q : RingId) : t.rings[q] = ((s.settle r b).modTracking r (Tracking.debounced code)).rings[q] := by rw [settled]
  have here : t.rings[r] = { g with tracking := k.debounced code } := by
    rw [rings, State.modTracking, ring_modRing_same, ring]
  have pool (p : Nat) : t.berth p = (s.settle r b).berth p := by
    rw [settled]
    rfl
  refine ⟨?_, fun p hp => (pool p).trans (berth_settle_other s r b p hp), here, fun q hq => ?_, ?_, ?_, ?_⟩
  · rw [← berth, State.ringBerth, pool, State.ringBerth, State.poolIndex, State.poolIndex, here, ring]
    rfl
  · rw [rings, State.modTracking, ring_modRing_other _ _ _ _ hq, ring_settle_other s r q b hq]
  · rw [settled]
    exact counters_settle s r b
  · rw [settled]
    refine record.trans ?_
    split
    · exact report_raise_congr _ (control_settle s r b ▸ rfl) (report_settle s r b) (timeBase_settle s r b ▸ rfl)
    · exact report_settle s r b
  · rw [settled]
    exact ⟨holds_modBerth s _ _, verify_modBerth s _ _, port_modBerth s _ _, responses_modBerth s _ _⟩

/-- The check value of this CRC (R17). -/
theorem crcOf_checkString : crcOf [0x31, 0x32, 0x33, 0x34, 0x35, 0x36, 0x37, 0x38, 0x39] = 0xCBF43926 := by
  simp [crcOf, crcFeed, crcByte, crcBit, crcPoly, crcInit, crcComplete]

/-- Settles O26. -/
theorem sealIsJudged : Obligations.SealIsJudged := by
  refine ⟨leadOf_eq, tailPosition_spec, fun t offset bytes old j => ?_, fun sync held => ⟨tailCheckCode_bytes held,
    tailPatternOk_iff sync held⟩, fun _ _ _ => rfl, fun c data => ⟨?_, rfl, rfl⟩, rfl, crcOf_checkString, fun s r b =>
    ⟨fun q l reclaimed hp => judgeClaim_eq s r b q l reclaimed hp, fun hp hf hd => ⟨seal_tailError s r b hf hd,
      seal_checkError s r b hf hd, seal_settles s r b hp⟩⟩⟩
  · rw [getElem_captureTail, capturePlace_eq]
  · rw [← BitVec.reverse_reverse_eq (x := crcFeed c data), reverse_crcFeed]
    rfl

end Sys2Proof.Machine
end

-- ==== Tracked writes and continuations ====
section
/-! PROOFS. What a tracked write leaves (R37, R39, R41, R44), and CONTINUATION_WRITE (R18, R44 to R48). -/

namespace Sys2Proof.Machine

open Sys2Proof Sys2Proof.Config

/-! ## Tracked writes -/

theorem modTracking_id (s : State) (r : RingId) : s.modTracking r (fun t => t) = s :=
  congrArg (fun v => { s with rings := v }) (Vector.set_getElem_self r.isLt)

/-- A tracked write sets the quiet timer to what R37 gives it, which is its old value while detection does not run. -/
theorem restartQuiet_eq (s : State) (r : RingId) :
    s.restartQuiet r = s.modTracking r fun t => { t with quietTimer := s.quietTimerAfter r } := by
  unfold State.restartQuiet State.quietTimerAfter
  dsimp only
  split
  · rfl
  · exact (modTracking_id s r).symm

theorem quietTimerAfter_congr {s t : State} (r : RingId) (hr : t.rings[r].quietRuns = s.rings[r].quietRuns)
    (hn : t.timeBase.now = s.timeBase.now) (hp : t.rings[r].profile = s.rings[r].profile)
    (ht : t.rings[r].tracking.quietTimer = s.rings[r].tracking.quietTimer) : t.quietTimerAfter r = s.quietTimerAfter r := by
  rw [State.quietTimerAfter, hr, hn, hp, ht]
  rfl

/-- The ring record with the quiet timer set to a value. -/
def RingRecord.timed (q : Option Word) (g : RingRecord) : RingRecord :=
  { g with tracking := { g.tracking with quietTimer := q } }

/-- What a tracked write of berth b leaves: the berth has taken it, the ring has captured of it and its quiet timer is set,
and it is the last entry of the pass-through queue. -/
structure Tracks (r : RingId) (b offset : Nat) (w : WriteTx) (s t : State) : Prop where
  berth : t.berth (s.poolIndex r b) = (s.ringBerth r b).take offset w
  others : ∀ p : Nat, p ≠ s.poolIndex r b → t.berth p = s.berth p
  ring : t.rings[r] = (s.rings[r].capture (s.ringBerth r b).payload offset w).timed (s.quietTimerAfter r)
  rings : ∀ q : RingId, q ≠ r → t.rings[q] = s.rings[q]
  port : t.port = { s.port with
    passThrough := s.port.passThrough ++ [writeEntry w (some ⟨r, s.poolIndex r b, (s.ringBerth r b).generation⟩)] }
  frame : ∃ rings pool port, t = { s with rings := rings, pool := pool, port := port }

theorem capture_eq (n : BitVec 16) (offset : Nat) (w : WriteTx) (g : RingRecord) : g.capture (some n) offset w =
    { g with tailCapture := captureTail (tailPosition n) offset w.data g.tailCapture } := rfl

theorem take_eq (offset : Nat) (w : WriteTx) (b : Berth) (n : BitVec 16) (hn : b.payload = some n) : b.take offset w =
    { b with
      outstanding := b.outstanding + 1
      fillCursor := offset + w.length
      check := crcFeed b.check (bytesBelow (payloadEnd n) offset w.data) } := by
  simp only [Berth.take, hn]

theorem exists_capture (g : RingRecord) (payload : Option (BitVec 16)) (offset : Nat) (w : WriteTx) :
    ∃ tail, g.capture payload offset w = { g with tailCapture := tail } := by
  cases payload with
  | none => exact ⟨g.tailCapture, rfl⟩
  | some n => exact ⟨_, rfl⟩

theorem tracks_trackWrite (s : State) (r : RingId) (b offset : Nat) (w : WriteTx) (hp : s.poolIndex r b < 2048) :
    Tracks r b offset w s (s.trackWrite r b offset w) := by
  obtain ⟨pool, filled⟩ := modBerth_pool s (s.poolIndex r b) (Berth.take offset w)
  obtain ⟨tail, captured⟩ := exists_capture s.rings[r] (s.ringBerth r b).payload offset w
  generalize passed : ((s.modBerth (s.poolIndex r b) (Berth.take offset w)).modRing r
      (RingRecord.capture (s.ringBerth r b).payload offset w)).passWrite
        (some ⟨r, s.poolIndex r b, (s.ringBerth r b).generation⟩) w = t
  have ring : t.rings[r] = s.rings[r].capture (s.ringBerth r b).payload offset w := by
    rw [← passed, rings_passWrite, ring_modRing_same, rings_modBerth]
  have timer : t.quietTimerAfter r = s.quietTimerAfter r := by
    have now : t.timeBase.now = s.timeBase.now := by
      rw [← passed, timeBase_passWrite, timeBase_modRing, timeBase_modBerth]
    rw [captured] at ring
    exact quietTimerAfter_congr r (by rw [ring]; rfl) now (by rw [ring]) (by rw [ring])
  have whole : s.trackWrite r b offset w = t.modRing r (RingRecord.timed (s.quietTimerAfter r)) := by
    rw [← timer]
    exact (congrArg (State.restartQuiet r) passed).trans (restartQuiet_eq t r)
  have berth (p : Nat) : t.berth p = (s.modBerth (s.poolIndex r b) (Berth.take offset w)).berth p := by
    rw [← passed]
    rfl
  refine ⟨?_, fun p other => ?_, ?_, fun q other => ?_, ?_, ?_⟩
  · rw [whole, berth_modRing, berth, berth_modBerth_same _ _ _ hp]
    rfl
  · rw [whole, berth_modRing, berth, berth_modBerth_other _ _ _ _ other]
  · rw [whole, ring_modRing_same, ring]
  · rw [whole, ring_modRing_other _ _ _ _ other, ← passed, rings_passWrite, ring_modRing_other _ _ _ _ other, rings_modBerth]
  · rw [whole, port_modRing, ← passed, filled]
    rfl
  · rw [whole, ← passed, filled]
    exact ⟨_, _, _, rfl⟩

/-! ## Continuations -/

/-- A continuation that the part does not take passes into a FREE berth, and into a DAMAGED one that is the current berth or
lies in a ring in HUNT (R18, R46, R48). -/
def State.continuationPasses (s : State) (r : RingId) (b : Nat) : Prop :=
  (s.ringBerth r b).state = .free ∨ (s.ringBerth r b).state = .damaged ∧
    (s.rings[r].tracking.align = .hunt ∨ s.rings[r].tracking.current = some b)

theorem continuation_taken (s : State) (r : RingId) (b : Nat) (w : WriteTx) (ha : s.rings[r].tracking.align ≠ .hunt)
    (hc : s.rings[r].tracking.current = some b) (hf : (s.ringBerth r b).state = .filling) :
    s.continuation r b (s.ringBerth r b).fillCursor w =
      (s.trackWrite r b (s.ringBerth r b).fillCursor w).sealIfComplete r b := by
  rw [State.continuation, if_neg ha, if_pos hc, State.continueCurrent, hf]
  exact if_pos rfl

theorem writeInHunt_eq (s : State) (r : RingId) (b : Nat) (w : WriteTx) : s.writeInHunt r b w =
    if (s.ringBerth r b).state = .free ∨ (s.ringBerth r b).state = .damaged then s.passWrite none w
    else s.refuseLive r b w := by
  unfold State.writeInHunt
  cases (s.ringBerth r b).state <;> rfl

/-- A continuation but into the FILLING current berth of a ring outside HUNT is judged by its berth's state alone. -/
theorem continuation_untaken (s : State) (r : RingId) (b offset : Nat) (w : WriteTx)
    (h : ¬(s.rings[r].tracking.align ≠ .hunt ∧ s.rings[r].tracking.current = some b ∧ (s.ringBerth r b).state = .filling)) :
    (s.continuationPasses r b → s.continuation r b offset w = s.passWrite none w) ∧
      (¬s.continuationPasses r b → s.continuation r b offset w = s.refuseLive r b w) := by
  unfold State.continuation State.continuationPasses
  dsimp only
  by_cases hunt : s.rings[r].tracking.align = .hunt
  · rw [if_pos hunt, writeInHunt_eq]
    simp only [hunt, true_or, and_true]
    exact ⟨fun passes => if_pos passes, fun refused => if_neg refused⟩
  · rw [if_neg hunt]
    by_cases current : s.rings[r].tracking.current = some b
    · rw [if_pos current, State.continueCurrent]
      have notFilling : (s.ringBerth r b).state ≠ .filling := fun filling => h ⟨hunt, current, filling⟩
      simp only [current, or_true, and_true]
      cases state : (s.ringBerth r b).state with
      | filling => exact absurd state notFilling
      | free => exact ⟨fun _ => rfl, fun refused => absurd (.inl rfl) refused⟩
      | damaged => exact ⟨fun _ => rfl, fun refused => absurd (.inr rfl) refused⟩
      | settling | checking | staged | ready => exact ⟨fun passes => absurd passes nofun, fun _ => rfl⟩
    · rw [if_neg current]
      simp only [hunt, current, or_self, and_false, or_false]
      cases (s.ringBerth r b).state with
      | free => exact ⟨fun _ => rfl, fun refused => absurd rfl refused⟩
      | filling | settling | checking | staged | ready | damaged => exact ⟨nofun, fun _ => rfl⟩

/-- A refusal in a window settles at once: it releases no read. -/
theorem settle_refuseInWindow (s : State) (r : RingId) (c : Record) (w : WriteTx) :
    s.settleReleases (s.refuseInWindow r c w) = s.refuseInWindow r c w := settleReleases_none _ _ (holds_refuseInWindow s r c w)

/-- Settles O25: the FILLING current berth takes the write at its fill cursor, every other one is judged by its state. -/
theorem continuationsAreTakenPassedOrRefused : Obligations.ContinuationsAreTakenPassedOrRefused := by
  refine ⟨fun s w r b n ht h0 ha hc hf hn hp => ?_, fun s w r b offset ht h0 h => ?_⟩
  · have tracks := tracks_trackWrite s r b (s.ringBerth r b).fillCursor w hp
    have taken := continuation_taken s r b w ha hc hf
    generalize s.trackWrite r b (s.ringBerth r b).fillCursor w = u at tracks taken
    have ring := tracks.ring
    have here := tracks.berth
    rw [hn, capture_eq] at ring
    have berth : u.ringBerth r b = (s.ringBerth r b).take (s.ringBerth r b).fillCursor w := by
      rw [← here, State.ringBerth, State.poolIndex, ring]
      rfl
    have complete : u.sealIfComplete r b =
        if recordEnd n ≤ (s.ringBerth r b).fillCursor + w.length then u.seal r b else u := by
      unfold State.sealIfComplete
      dsimp only
      rw [berth, Berth.take, hn]
    obtain ⟨rings, pool, port, frame⟩ := tracks.frame
    refine ⟨u, ?_, ?_, tracks.others, ring, tracks.rings, tracks.port, ?_⟩
    · rw [exec_producer_write _ w s r b _ rfl ht, if_neg h0, taken, complete]
      split
      · rfl
      · rw [settleReleases_none s u (by rw [frame])]
    · rw [here, take_eq _ _ _ n hn]
    · rw [frame]
      exact ⟨rfl, rfl, rfl, rfl, rfl, rfl, rfl, rfl⟩
  · obtain ⟨passes, refuses⟩ := continuation_untaken s r b offset w h
    have row := exec_producer_write (.continuationWrite w) w s r b offset rfl ht
    rw [if_neg h0] at row
    refine ⟨fun hpass => ?_, fun hrefuse => ?_⟩
    · rw [row, passes hpass, settle_passWrite]
    · rw [row, refuses hrefuse, State.refuseLive, settle_refuseInWindow]
      rfl

end Sys2Proof.Machine
end

-- ==== Claims and starts ====
section
/-! PROOFS. The overrun policy before a start (R22, R55 to R57), what a claim leaves before its length check (R41), and the
starts that are not claimed (R26 to R28, R56). -/

namespace Sys2Proof.Machine

open Sys2Proof Sys2Proof.Config

/-! ## The overrun policy -/

theorem live_iff {x : BerthState} : x.live = true ↔ x ≠ .free := by cases x <;> decide

/-- A reclaim laps slots of its ring, and changes nothing else of a ring (R57). -/
theorem rings_reclaim (s : State) (r : RingId) (b : Nat) (writer : Initiator) :
    (s.reclaim r b writer).rings = (s.modRing r (RingRecord.lap (s.ringBerth r b).pendingSet)).rings := by
  obtain ⟨c, ended, -⟩ := endHolds_spec (s.modRing r (RingRecord.lap (s.ringBerth r b).pendingSet)) true
    fun h => h.berth == s.poolIndex r b
  unfold State.reclaim
  dsimp only
  rw [rings_modBerth, rings_count, rings_raise, ended]
  split <;> rfl

/-- What a start's judgment finds of its ring after the overrun policy: all but the lapped slots is as it was. -/
theorem ring_overrunTaken (s : State) (r : RingId) (b : Nat) (writer : Initiator) :
    ∃ roster, (s.overrunTaken r b writer).rings[r] = { s.rings[r] with roster := roster } := by
  unfold State.overrunTaken
  split
  · exact ⟨_, rfl⟩
  · exact ⟨_, (congrArg (fun v => v[r]) (rings_reclaim _ r b writer)).trans (ring_modRing_same _ r _)⟩

theorem tracking_overrunTaken (s : State) (r : RingId) (b : Nat) (writer : Initiator) :
    (s.overrunTaken r b writer).rings[r].tracking = s.rings[r].tracking := by
  obtain ⟨roster, ring⟩ := ring_overrunTaken s r b writer
  rw [ring]

theorem profile_overrunTaken (s : State) (r : RingId) (b : Nat) (writer : Initiator) :
    (s.overrunTaken r b writer).rings[r].profile = s.rings[r].profile := by
  obtain ⟨roster, ring⟩ := ring_overrunTaken s r b writer
  rw [ring]

theorem poolIndex_overrunTaken (s : State) (r : RingId) (b : Nat) (writer : Initiator) (i : Nat) :
    (s.overrunTaken r b writer).poolIndex r i = s.poolIndex r i := by
  obtain ⟨roster, ring⟩ := ring_overrunTaken s r b writer
  rw [State.poolIndex, ring]
  rfl

section

variable {s : State} {r : RingId} {b : Nat} {w : WriteTx} {judgment : Bool → State → State}

/-- A start that is judged is judged after the overrun policy, and is told whether its berth was taken from an old record. -/
theorem overrun_taken (h : (s.ringBerth r b).state = .free ∨ s.rings[r].profile.overrun = .reclaim) :
    s.overrun r b w judgment = judgment (s.ringBerth r b).state.live (s.overrunTaken r b w.initiator) := by
  unfold State.overrun State.overrunTaken
  dsimp only
  by_cases free : (s.ringBerth r b).state = .free
  · rw [if_pos free, if_pos free, free]
    rfl
  · rw [if_neg free, if_neg free, h.resolve_left free, live_iff.mpr free]

theorem overrun_blocked (live : (s.ringBerth r b).state ≠ .free) (h : s.rings[r].profile.overrun = .block) :
    s.overrun r b w judgment = (s.count r .overruns).refuseInWindow r
      { kind := .overrunRefused, ring := ringField r, berth := berthField b, seq := seqField (s.ringBerth r b)
        initiator := initiatorField w.initiator } w := by
  unfold State.overrun
  dsimp only
  rw [if_neg live, h]

end

/-! ## Claims -/

/-- The fields of a claim, from the state in which the current berth has been abandoned (steps 2 to 5 of R41). -/
def State.claimFielded (r : RingId) (c : Claim) (writer : Initiator) (j : State) : State :=
  let fielded := (j.modBerth (j.poolIndex r c.berth) (Berth.claimed c writer)).modRing r (RingRecord.claimed c)
  if c.reclaimed then fielded else fielded.occupancyUp r

/-- A claim as far as its length check or seal, from the state in which the current berth has been abandoned (R41). -/
def State.claimTaken (r : RingId) (c : Claim) (w : WriteTx) (j : State) : State :=
  (j.claimFielded r c w.initiator).trackWrite r c.berth 0 w

theorem layout_abandonCurrent (s : State) (r q : RingId) : (s.abandonCurrent r).rings[q].layout = s.rings[q].layout :=
  ((Calm.refl ∅ s).abandonCurrent r).layout q

theorem poolIndex_abandonCurrent (s : State) (r q : RingId) (i : Nat) :
    (s.abandonCurrent r).poolIndex q i = s.poolIndex q i := poolIndex_of_layout (layout_abandonCurrent s r q) i

theorem claim_eq (s : State) (r : RingId) (c : Claim) (w : WriteTx) :
    s.claim r c w = (((s.abandonCurrent r).claimTaken r c w).judgeClaim r c).groupTest r := by
  unfold State.claim State.claimTaken State.claimFielded
  rw [poolIndex_abandonCurrent]

/-- What the fields of a claim leave (steps 2 to 5 of R41). -/
structure ClaimFields (r : RingId) (c : Claim) (writer : Initiator) (s t : State) : Prop where
  berth : t.berth (s.poolIndex r c.berth) = Berth.claimed c writer (s.ringBerth r c.berth)
  others : ∀ p : Nat, p ≠ s.poolIndex r c.berth → t.berth p = s.berth p
  ring : t.rings[r] = { s.rings[r].claimed c with
    occupancy := if c.reclaimed then s.rings[r].occupancy else s.rings[r].occupancy + 1 }
  rings : ∀ q : RingId, q ≠ r → t.rings[q] = s.rings[q]
  counters : t.counters =
    (if c.reclaimed then s else s.raisePeak r .peakOccupancy (BitVec.ofNat 32 (s.rings[r].occupancy + 1))).counters
  frame : ∃ rings pool counters, t = { s with rings := rings, pool := pool, counters := counters }

theorem claimFields_claimFielded (s : State) (r : RingId) (c : Claim) (writer : Initiator)
    (hp : s.poolIndex r c.berth < 2048) : ClaimFields r c writer s (s.claimFielded r c writer) := by
  obtain ⟨pool, filled⟩ := modBerth_pool s (s.poolIndex r c.berth) (Berth.claimed c writer)
  generalize marked : (s.modBerth (s.poolIndex r c.berth) (Berth.claimed c writer)).modRing r (RingRecord.claimed c) = t
  have whole : s.claimFielded r c writer = if c.reclaimed then t else t.occupancyUp r := by
    rw [← marked]
    rfl
  have here : t.berth (s.poolIndex r c.berth) = Berth.claimed c writer (s.ringBerth r c.berth) := by
    rw [← marked, berth_modRing, berth_modBerth_same _ _ _ hp]
    rfl
  have elsewhere (p : Nat) (other : p ≠ s.poolIndex r c.berth) : t.berth p = s.berth p := by
    rw [← marked, berth_modRing, berth_modBerth_other _ _ _ _ other]
  have ring : t.rings[r] = s.rings[r].claimed c := by
    rw [← marked, ring_modRing_same, rings_modBerth]
  have rings (q : RingId) (other : q ≠ r) : t.rings[q] = s.rings[q] := by
    rw [← marked, ring_modRing_other _ _ _ _ other, rings_modBerth]
  have frame : t = { s with rings := t.rings, pool := pool } := by
    rw [← marked, filled]
    rfl
  rw [whole]
  cases reclaimed : c.reclaimed with
  | true =>
    rw [if_pos rfl]
    refine ⟨here, elsewhere, ?_, rings, ?_, ?_⟩
    · rw [ring, reclaimed]
      rfl
    · rw [frame, reclaimed]
      rfl
    · rw [frame]
      exact ⟨_, _, _, rfl⟩
  | false =>
    rw [if_neg Bool.false_ne_true]
    refine ⟨here, elsewhere, ?_, fun q other => ?_, ?_, ?_⟩
    · rw [State.occupancyUp, rings_raisePeak, ring_modRing_same, ring, reclaimed]
      rfl
    · rw [State.occupancyUp, rings_raisePeak, ring_modRing_other _ _ _ _ other, rings q other]
    · rw [State.occupancyUp, ring, reclaimed, frame]
      rfl
    · rw [frame]
      exact ⟨_, _, _, rfl⟩

theorem poolIndex_claimFields {r : RingId} {c : Claim} {writer : Initiator} {s t : State}
    (h : ClaimFields r c writer s t) (i : Nat) : t.poolIndex r i = s.poolIndex r i := by
  rw [State.poolIndex, h.ring]
  rfl

/-- What a claim leaves as far as its length check or seal (steps 2 to 6 of R41). -/
structure ClaimTaken (r : RingId) (c : Claim) (w : WriteTx) (s t : State) : Prop where
  berth : t.berth (s.poolIndex r c.berth) = (Berth.claimed c w.initiator (s.ringBerth r c.berth)).take 0 w
  others : ∀ p : Nat, p ≠ s.poolIndex r c.berth → t.berth p = s.berth p
  ring : t.rings[r] =
    (({ s.rings[r].claimed c with
        occupancy := if c.reclaimed then s.rings[r].occupancy else s.rings[r].occupancy + 1 }).capture
      (c.lead.map Lead.payload) 0 w).timed (s.quietTimerAfter r)
  rings : ∀ q : RingId, q ≠ r → t.rings[q] = s.rings[q]
  port : t.port = { s.port with
    passThrough := s.port.passThrough ++
      [writeEntry w (some ⟨r, s.poolIndex r c.berth, (s.ringBerth r c.berth).generation + 1⟩)] }
  counters : t.counters =
    (if c.reclaimed then s else s.raisePeak r .peakOccupancy (BitVec.ofNat 32 (s.rings[r].occupancy + 1))).counters
  frame : ∃ rings pool port counters, t = { s with rings := rings, pool := pool, port := port, counters := counters }

theorem claimTaken_spec (j : State) (r : RingId) (c : Claim) (w : WriteTx) (hp : j.poolIndex r c.berth < 2048) :
    ClaimTaken r c w j (j.claimTaken r c w) := by
  have fields := claimFields_claimFielded j r c w.initiator hp
  unfold State.claimTaken
  generalize j.claimFielded r c w.initiator = f at fields
  have index : f.poolIndex r c.berth = j.poolIndex r c.berth := poolIndex_claimFields fields c.berth
  have tracks := tracks_trackWrite f r c.berth 0 w (by rwa [index])
  generalize f.trackWrite r c.berth 0 w = u at tracks
  obtain ⟨rings, pool, counters, frame⟩ := fields.frame
  obtain ⟨rings', pool', port', frame'⟩ := tracks.frame
  have berth : f.ringBerth r c.berth = Berth.claimed c w.initiator (j.ringBerth r c.berth) := by
    rw [State.ringBerth, index]
    exact fields.berth
  have timer : f.quietTimerAfter r = j.quietTimerAfter r :=
    quietTimerAfter_congr r (by rw [fields.ring]; rfl) (by rw [frame]) (by rw [fields.ring]; rfl) (by rw [fields.ring]; rfl)
  refine ⟨?_, fun p other => ?_, ?_, fun q other => ?_, ?_, ?_, ?_⟩
  · rw [← index, tracks.berth, berth]
  · rw [tracks.others p (index ▸ other)]
    exact fields.others p other
  · rw [tracks.ring, berth, timer, fields.ring]
    rfl
  · rw [tracks.rings q other, fields.rings q other]
  · rw [tracks.port, berth, index, frame]
    rfl
  · rw [frame', fields.counters]
  · rw [frame', frame]
    exact ⟨_, _, _, _, rfl⟩

/-- A claim by a start of good lead leaves what R41 says, as far as the length check and a seal. -/
theorem claimedTo_claimTaken (j : State) (r : RingId) (b : Nat) (l : Lead) (reclaimed : Bool) (w : WriteTx)
    (hp : j.poolIndex r b < 2048) : j.claimedTo r b l reclaimed w (j.claimTaken r ⟨b, l.seq, some l, reclaimed⟩ w) := by
  have taken := claimTaken_spec j r ⟨b, l.seq, some l, reclaimed⟩ w hp
  obtain ⟨rings, pool, port, counters, frame⟩ := taken.frame
  refine ⟨?_, taken.others, taken.ring, taken.rings, taken.port, taken.counters, ?_⟩
  · rw [taken.berth, take_eq _ _ _ l.payload rfl]
    simp only [Berth.claimed, startedBerth, Option.map_some, Nat.zero_add]
  · rw [frame]
    exact ⟨rfl, rfl, rfl, rfl, rfl, rfl, rfl⟩

end Sys2Proof.Machine
end

-- ==== The judgment of a start ====
section
/-! PROOFS. START_WRITE in each alignment state (R18 to R28): the starts that are claimed with a good lead, and those that are
not claimed. -/

namespace Sys2Proof.Machine

open Sys2Proof Sys2Proof.Config

section

variable {s : State} {r : RingId} {b : Nat} {w : WriteTx}

/-- A start's row judges it in the alignment state of its ring (R18). -/
theorem exec_start (ht : s.takesProducerWrite w r b 0) :
    exec (.startWrite w) s = .next (s.settleReleases (s.start r b w)) := by
  rw [exec_producer_write _ w s r b 0 rfl ht, if_pos rfl]

theorem start_hunt (h : s.rings[r].tracking.align = .hunt) : s.start r b w = s.startInHunt r b w := by
  rw [State.start, h]

theorem start_confirm (h : s.rings[r].tracking.align = .confirm) : s.start r b w = s.startInConfirm r b w := by
  rw [State.start, h]

theorem start_locked (h : s.rings[r].tracking.align = .locked) : s.start r b w = s.startInLocked r b w := by
  rw [State.start, h]

theorem expects_iff {t : Tracking} {q : Seq} : t.expects b q = true ↔ t.position = some b ∧ t.expected = some q := by
  rw [Tracking.expects, Bool.and_eq_true, beq_iff_eq, beq_iff_eq]

theorem startInHunt_candidate {l : Lead} (hl : leadOf s.rings[r].profile.sync w = some l) :
    s.startInHunt r b w = s.overrun r b w fun reclaimed s => s.candidateStart r b l w reclaimed := by
  rw [State.startInHunt, hl]

theorem startInHunt_badLead (hl : leadOf s.rings[r].profile.sync w = none) : s.startInHunt r b w = s.writeInHunt r b w := by
  rw [State.startInHunt, hl]

theorem startInConfirm_confirms {l : Lead} (hl : leadOf s.rings[r].profile.sync w = some l)
    (h : s.rings[r].tracking.position = some b ∧ s.rings[r].tracking.expected = some l.seq) :
    s.startInConfirm r b w = s.overrun r b w fun reclaimed s => s.confirmingStart r b l w reclaimed := by
  rw [State.startInConfirm, hl]
  exact if_pos (expects_iff.mpr h)

/-- In CONFIRM a start that does not confirm is judged in HUNT (R21). -/
theorem startInConfirm_returns (h : ∀ l : Lead, leadOf s.rings[r].profile.sync w = some l →
      ¬(s.rings[r].tracking.position = some b ∧ s.rings[r].tracking.expected = some l.seq)) :
    s.startInConfirm r b w = (s.returnToHunt r).start r b w := by
  have hunt : (s.returnToHunt r).rings[r].tracking.align = .hunt := by
    rw [State.returnToHunt, tracking_modTracking]
    rfl
  rw [State.startInConfirm, start_hunt hunt]
  cases hl : leadOf s.rings[r].profile.sync w with
  | none => rfl
  | some l => exact if_neg fun e => h l hl (expects_iff.mp e)

theorem startInLocked_good {l : Lead} (hl : leadOf s.rings[r].profile.sync w = some l)
    (hp : s.rings[r].tracking.position = some b) (he : s.rings[r].tracking.expected = some l.seq) :
    s.startInLocked r b w = s.overrun r b w fun reclaimed s => s.goodStart r b l w reclaimed := by
  rw [State.startInLocked, if_pos hp, hl]
  exact if_pos he

theorem startInLocked_break {l : Lead} (hl : leadOf s.rings[r].profile.sync w = some l)
    (hp : s.rings[r].tracking.position = some b) (he : s.rings[r].tracking.expected ≠ some l.seq) :
    s.startInLocked r b w = s.overrun r b w fun reclaimed s => s.breakStart r b l w reclaimed := by
  rw [State.startInLocked, if_pos hp, hl]
  exact if_neg he

theorem startInLocked_leadError (hl : leadOf s.rings[r].profile.sync w = none)
    (hp : s.rings[r].tracking.position = some b) :
    s.startInLocked r b w = s.overrun r b w fun reclaimed s => s.leadErrorStart r b w reclaimed := by
  rw [State.startInLocked, if_pos hp, hl]

theorem startInLocked_slip (hp : s.rings[r].tracking.position ≠ some b) (hf : (s.ringBerth r b).state = .free) :
    s.startInLocked r b w = s.slip r b w := by
  rw [State.startInLocked, if_neg hp, if_pos hf]

theorem startInLocked_live (hp : s.rings[r].tracking.position ≠ some b) (hf : (s.ringBerth r b).state ≠ .free) :
    s.startInLocked r b w = s.liveStart r b w := by
  rw [State.startInLocked, if_neg hp, if_neg hf]

end

/-! ## Claims with a good lead -/

theorem poolIndex_modTracking (s : State) (r : RingId) (f : Tracking → Tracking) (i : Nat) :
    (s.modTracking r f).poolIndex r i = s.poolIndex r i := by
  rw [State.poolIndex, State.modTracking, ring_modRing_same]
  rfl

theorem profile_modTracking (s : State) (r : RingId) (f : Tracking → Tracking) :
    (s.modTracking r f).rings[r].profile = s.rings[r].profile := by
  rw [State.modTracking, ring_modRing_same]

theorem poolIndex_congr {s t : State} (h : t.rings = s.rings) (r : RingId) (i : Nat) : t.poolIndex r i = s.poolIndex r i := by
  rw [State.poolIndex, State.poolIndex, h]

/-- A claim is judged, and the group completion test made, from a state of which `claimedTo` tells. -/
theorem claim_spec (j : State) (r : RingId) (b : Nat) (l : Lead) (reclaimed : Bool) (w : WriteTx) (hp : j.poolIndex r b < 2048) :
    ∃ u : State, (j.abandonCurrent r).claimedTo r b l reclaimed w u ∧ j.claim r ⟨b, l.seq, some l, reclaimed⟩ w =
      (u.judgeClaim r ⟨b, l.seq, some l, reclaimed⟩).groupTest r :=
  ⟨_, claimedTo_claimTaken _ r b l reclaimed w (by rwa [poolIndex_abandonCurrent]), claim_eq j r _ w⟩

/-- Settles O16. -/
theorem candidateStartEntersConfirm : Obligations.CandidateStartEntersConfirm := by
  intro s w r b ht ha hp
  constructor
  · intro l hl ho reclaimed judged
    have index : judged.poolIndex r b < 2048 := by
      rwa [poolIndex_modTracking, poolIndex_overrunTaken]
    obtain ⟨u, claimed, whole⟩ := claim_spec judged r b l reclaimed w index
    refine ⟨u, claimed, ?_⟩
    rw [exec_start ht, start_hunt ha, startInHunt_candidate hl, overrun_taken ho, ← whole]
    rfl
  · intro hl
    rw [exec_start ht, start_hunt ha, startInHunt_badLead hl, writeInHunt_eq]
    split
    · rw [settle_passWrite]
    · rw [State.refuseLive, settle_refuseInWindow]
      rfl

theorem rings_acquireLock (s : State) (r : RingId) (b : Nat) (q : Seq) (i : Initiator) :
    (s.acquireLock r b q i).rings = (s.modTracking r fun t => { t with align := .locked, errorCount := 0 }).rings := by
  unfold State.acquireLock
  dsimp only
  split
  · rw [rings_raise]
  · split
    · rw [rings_raise]
    · rw [rings_raise, rings_raise]

/-- Settles O17. -/
theorem startsInConfirm : Obligations.StartsInConfirm := by
  intro s w r b ht ha hp
  constructor
  · intro l hl hpos hexp ho reclaimed progress progressed
    have tracking : (s.overrunTaken r b w.initiator).rings[r].tracking = s.rings[r].tracking := tracking_overrunTaken s r b _
    have same : (s.overrunTaken r b w.initiator).modTracking r (fun t => { t with confirmProgress := t.confirmProgress + 1 }) =
        progressed := modTracking_congr _ r (by rw [tracking])
    have ring : progressed.rings[r].tracking = { s.rings[r].tracking with confirmProgress := progress } := by
      rw [tracking_modTracking, tracking]
    have profile : progressed.rings[r].profile = s.rings[r].profile :=
      (profile_modTracking _ r _).trans (profile_overrunTaken s r b _)
    have index : progressed.poolIndex r b < 2048 := by
      rwa [poolIndex_modTracking, poolIndex_overrunTaken]
    have row : exec (.startWrite w) s = .next (s.settleReleases
        ((s.overrunTaken r b w.initiator).confirmingStart r b l w reclaimed)) := by
      rw [exec_start ht, start_confirm ha, startInConfirm_confirms hl ⟨hpos, hexp⟩, overrun_taken ho]
    rw [State.confirmingStart, same, ring, profile_overrunTaken] at row
    constructor
    · intro more
      obtain ⟨u, claimed, whole⟩ := claim_spec progressed r b l reclaimed w index
      exact ⟨u, claimed, by rw [row, if_neg more, whole]⟩
    · intro done acquired judged
      have locks : progressed.acquireLock r b l.seq w.initiator = judged := by
        unfold State.acquireLock
        rw [ring, profile]
        rfl
      have index : judged.poolIndex r b < 2048 := by
        rwa [← locks, poolIndex_congr (rings_acquireLock _ r b _ _), poolIndex_modTracking]
      obtain ⟨u, claimed, whole⟩ := claim_spec judged r b l reclaimed w index
      exact ⟨u, claimed, by rw [row, if_pos done, locks, whole]⟩
  · intro h
    rw [exec_start ht, start_confirm ha, startInConfirm_returns h]
    rfl

/-- A claim of a length within the limit whose record is not complete has no damage and no seal (R42). -/
theorem judgeClaim_incomplete {j u : State} {r : RingId} {b : Nat} {l : Lead} {reclaimed : Bool} {w : WriteTx}
    (h : j.claimedTo r b l reclaimed w u) (short : l.payload.toNat ≤ j.rings[r].profile.berthSize - 16)
    (more : w.length < recordEnd l.payload) : u.judgeClaim r ⟨b, l.seq, some l, reclaimed⟩ = u := by
  obtain ⟨berth, -, ring, -⟩ := h
  have here : u.ringBerth r b = startedBerth w l ((j.ringBerth r b).generation + 1) := by
    rw [← berth, State.ringBerth, State.poolIndex, ring]
    rfl
  have fits : ¬u.rings[r].profile.berthSize - 16 < l.payload.toNat := by
    rw [ring]
    exact Nat.not_lt.mpr short
  have incomplete : ¬recordEnd l.payload ≤ (u.ringBerth r b).fillCursor := by
    rw [here]
    exact Nat.not_le.mpr more
  rw [judgeClaim_eq u r b l.seq l reclaimed (by rw [here]; rfl), if_neg fits, if_neg incomplete]

/-- Settles O18. -/
theorem goodStartClaimsTheBerth : Obligations.GoodStartClaimsTheBerth := by
  intro s w r b l ht ha hp hl hpos hexp ho reclaimed judged
  have index : judged.poolIndex r b < 2048 := by
    rwa [poolIndex_modTracking, poolIndex_overrunTaken]
  have profile : judged.rings[r].profile = s.rings[r].profile :=
    (profile_modTracking _ r _).trans (profile_overrunTaken s r b _)
  obtain ⟨u, claimed, whole⟩ := claim_spec judged r b l reclaimed w index
  refine ⟨u, claimed, fun short more => ?_, ?_⟩
  · refine judgeClaim_incomplete claimed ?_ more
    rw [profile_of_layout (layout_abandonCurrent judged r r), profile]
    exact short
  · rw [exec_start ht, start_locked ha, startInLocked_good hl hpos hexp, overrun_taken ho, ← whole]
    rfl

/-! ## Starts that are not claimed -/

/-- An alignment error that is not claimed settles with the loss of lock, if it is the third in a row. -/
theorem settle_loseLockAtThird (s t : State) (r : RingId) (hh : t.holds = s.holds)
    (hr : t.rings[r].tracking = { s.rings[r].tracking with errorCount := s.rings[r].tracking.errorCount + 1 })
    (ha : s.rings[r].tracking.align = .locked) : s.settleReleases (t.loseLockAtThird r) =
      if 2 ≤ s.rings[r].tracking.errorCount then s.settleReleases (t.loseLock r .consecutiveErrors) else t := by
  have third : t.loseLockAtThird r =
      if 2 ≤ s.rings[r].tracking.errorCount then t.loseLock r .consecutiveErrors else t := by
    rw [State.loseLockAtThird, hr]
    exact if_congr ⟨fun h => Nat.le_of_succ_le_succ h.2, fun h => ⟨ha, Nat.succ_le_succ h⟩⟩ rfl rfl
  rw [third]
  split
  · rfl
  · exact settleReleases_none s t hh

theorem start_blocked {s : State} {r : RingId} {b : Nat} {w : WriteTx}
    (h : s.rings[r].tracking.align = .hunt ∧ (leadOf s.rings[r].profile.sync w).isSome = true ∨
        s.rings[r].tracking.align = .confirm ∧ s.rings[r].tracking.position = some b ∧
          (∃ l : Lead, leadOf s.rings[r].profile.sync w = some l ∧ s.rings[r].tracking.expected = some l.seq) ∨
        s.rings[r].tracking.align = .locked ∧ s.rings[r].tracking.position = some b) :
    ∃ judgment, s.start r b w = s.overrun r b w judgment := by
  rcases h with ⟨ha, hl⟩ | ⟨ha, hp, l, hl, he⟩ | ⟨ha, hp⟩
  · obtain ⟨l, hl⟩ := Option.isSome_iff_exists.mp hl
    exact ⟨_, by rw [start_hunt ha, startInHunt_candidate hl]⟩
  · exact ⟨_, by rw [start_confirm ha, startInConfirm_confirms hl ⟨hp, he⟩]⟩
  · cases hl : leadOf s.rings[r].profile.sync w with
    | none => exact ⟨_, by rw [start_locked ha, startInLocked_leadError hl hp]⟩
    | some l =>
      by_cases he : s.rings[r].tracking.expected = some l.seq
      · exact ⟨_, by rw [start_locked ha, startInLocked_good hl hp he]⟩
      · exact ⟨_, by rw [start_locked ha, startInLocked_break hl hp he]⟩

/-- Settles O20. -/
theorem startsNotClaimed : Obligations.StartsNotClaimed := by
  intro s w r b ht
  constructor
  · intro ha hpos counted thirdLoses
    refine ⟨fun hf => ?_, fun hf => ?_⟩
    · rw [exec_start ht, start_locked ha, startInLocked_slip hpos hf, State.slip, settle_loseLockAtThird s _ r ?_ ?_ ha]
      · rfl
      · rw [holds_count, holds_raise, holds_modTracking, holds_passWrite]
      · rw [rings_count, rings_raise, tracking_modTracking, rings_passWrite]
        rfl
    · rw [exec_start ht, start_locked ha, startInLocked_live hpos hf, State.liveStart, settle_loseLockAtThird s _ r ?_ ?_ ha]
      · rfl
      · rw [holds_refuseInWindow, holds_modTracking]
      · rw [rings_refuseInWindow, tracking_modTracking]
        rfl
  · intro h hf hb
    obtain ⟨judgment, judged⟩ := start_blocked h
    rw [exec_start ht, judged, overrun_blocked hf hb, settleReleases_none _ _ (by rw [holds_refuseInWindow, holds_count])]
    rfl

end Sys2Proof.Machine
end

-- ==== Publication in full ====
section
/-! PROOFS. What a publication makes of every berth and of every place of the Hold Queue (R64, R73, R99), and that the
STAGED berths of a ring are all published when all are to be (R74). -/

namespace Sys2Proof.Machine

open Sys2Proof Sys2Proof.Config

/-! ## What a publication may change -/

/-- From s to t nothing changed but berths, places of the Hold Queue, counters, and the occupancy of ring r. -/
structure Inner (r : RingId) (s t : State) : Prop where
  ring : ∃ n, t.rings[r] = { s.rings[r] with occupancy := n }
  rings : ∀ q : RingId, q ≠ r → t.rings[q] = s.rings[q]
  frame : ∃ rings pool holds counters, t = { s with rings := rings, pool := pool, holds := holds, counters := counters }

section

variable {r : RingId} {s t u : State}

theorem Inner.trans (h : Inner r s t) (h' : Inner r t u) : Inner r s u := by
  obtain ⟨n, ring⟩ := h.ring
  obtain ⟨n', ring'⟩ := h'.ring
  obtain ⟨rings, pool, holds, counters, frame⟩ := h.frame
  obtain ⟨rings', pool', holds', counters', frame'⟩ := h'.frame
  exact ⟨⟨n', by rw [ring', ring]⟩, fun q other => (h'.rings q other).trans (h.rings q other),
    rings', pool', holds', counters', by rw [frame', frame]⟩

/-- A change that leaves the rings. -/
theorem inner_of_rings (r : RingId) (hr : t.rings = s.rings)
    (frame : ∃ pool holds counters, t = { s with pool := pool, holds := holds, counters := counters }) : Inner r s t := by
  obtain ⟨pool, holds, counters, frame⟩ := frame
  exact ⟨⟨s.rings[r].occupancy, by rw [hr]⟩, fun q _ => by rw [hr], s.rings, pool, holds, counters, frame⟩

theorem Inner.refl (r : RingId) (s : State) : Inner r s s := inner_of_rings r rfl ⟨_, _, _, rfl⟩

theorem Inner.poolIndex (h : Inner r s t) (i : Nat) : t.poolIndex r i = s.poolIndex r i := by
  obtain ⟨n, ring⟩ := h.ring
  rw [State.poolIndex, ring]
  rfl

theorem Inner.berthIndices (h : Inner r s t) : t.berthIndices r = s.berthIndices r := by
  obtain ⟨n, ring⟩ := h.ring
  rw [State.berthIndices, ring]
  rfl

theorem Inner.published (h : Inner r s t) (x : BerthState) (b : Berth) :
    t.rings[r].published x b = s.rings[r].published x b := by
  obtain ⟨n, ring⟩ := h.ring
  rw [ring]
  rfl

theorem inner_modBerth (r : RingId) (s : State) (p : Nat) (f : Berth → Berth) : Inner r s (s.modBerth p f) := by
  obtain ⟨pool, filled⟩ := modBerth_pool s p f
  exact inner_of_rings r (rings_modBerth s p f) ⟨_, _, _, filled⟩

theorem inner_occupancyDown (r : RingId) (s : State) : Inner r s (s.occupancyDown r) :=
  ⟨⟨_, ring_modRing_same s r _⟩, fun q other => ring_modRing_other s r q _ other, _, _, _, _, rfl⟩

theorem inner_releaseHolds (r : RingId) (s : State) (p : Nat) (o : ReadOutcome) : Inner r s (s.releaseHolds p o) := by
  obtain ⟨counters, released⟩ := releaseHolds_spec s p o
  exact inner_of_rings r (by rw [released]) ⟨_, _, _, released⟩

theorem inner_formPending (s : State) (r : RingId) (i : Nat) : Inner r s (s.formPending r i) := by
  unfold State.formPending
  dsimp only
  split
  · exact (inner_modBerth r s _ _).trans (inner_occupancyDown r _)
  · exact inner_modBerth r s _ _

theorem holds_formPending (s : State) (r : RingId) (i : Nat) : (s.formPending r i).holds = s.holds := by
  unfold State.formPending
  dsimp only
  split
  · exact holds_modBerth s _ _
  · exact holds_modBerth s _ _

end

/-! ## The berths and the places of a publication -/

/-- A place once the entries on the berths in m are released with an outcome (R99). -/
def HoldPlace.releasedOn (m : Nat → Bool) (o : ReadOutcome) (h : HoldPlace) : HoldPlace :=
  if h.waiting && m h.berth then { h with released := some o } else h

/-- From s to t the STAGED berths in m, which are ring r's, were published, and nothing else happened (R64, R99). -/
structure Publication (r : RingId) (m : Nat → Bool) (s t : State) : Prop where
  inner : Inner r s t
  staged : ∀ p : Nat, m p = true → (s.berth p).state = .staged
  ready : ∀ p : Nat, m p = true → t.berth p = s.rings[r].published .ready (s.berth p)
  kept : ∀ p : Nat, m p = false → t.berth p = s.berth p
  holds : t.holds = s.holds.map (HoldPlace.releasedOn m .okay)

/-- The pool record is a STAGED berth of ring r whose index is in the list. -/
def State.stagedAmong (s : State) (r : RingId) (l : List Nat) (p : Nat) : Bool :=
  (s.berth p).state == .staged && l.any fun i => p == s.poolIndex r i

section

variable {r : RingId} {m m' : Nat → Bool} {s t u : State}

theorem releasedOn_none (o : ReadOutcome) : HoldPlace.releasedOn (fun _ => false) o = id := by
  funext h
  rw [HoldPlace.releasedOn, Bool.and_false]
  rfl

theorem releasedOn_releasedOn (m m' : Nat → Bool) (o : ReadOutcome) (h : HoldPlace) :
    (h.releasedOn m o).releasedOn m' o = h.releasedOn (fun p => m p || m' p) o := by
  unfold HoldPlace.releasedOn
  cases waits : h.waiting with
  | false => simp [waits]
  | true =>
    cases first : m h.berth with
    | true => simp [first, HoldPlace.waiting]
    | false => simp [first, waits]

theorem Publication.refl (r : RingId) (s : State) : Publication r (fun _ => false) s s :=
  ⟨Inner.refl r s, nofun, nofun, fun _ _ => rfl, by rw [releasedOn_none, List.map_id]⟩

/-- A published berth is not STAGED. -/
theorem Publication.notStaged (h : Publication r m s t) {p : Nat} (hp : m p = true) : (t.berth p).state ≠ .staged := by
  rw [h.ready p hp]
  exact state_published_ne _ _ nofun nofun

theorem Publication.trans (h : Publication r m s t) (h' : Publication r m' t u) :
    Publication r (fun p => m p || m' p) s u where
  inner := h.inner.trans h'.inner
  staged p hp := by
    cases first : m p with
    | true => exact h.staged p first
    | false =>
      rw [first] at hp
      exact h.kept p first ▸ h'.staged p hp
  ready p hp := by
    cases first : m p with
    | true =>
      have second : m' p = false := Bool.eq_false_iff.mpr fun e => h.notStaged first (h'.staged p e)
      rw [h'.kept p second, h.ready p first]
    | false =>
      rw [first] at hp
      rw [h'.ready p hp, h.inner.published, h.kept p first]
  kept p hp := by
    obtain ⟨first, second⟩ := Bool.or_eq_false_iff.mp hp
    rw [h'.kept p second, h.kept p first]
  holds := by
    rw [h'.holds, h.holds, List.map_map]
    exact List.map_congr_left fun x _ => releasedOn_releasedOn m m' .okay x

theorem Publication.congr (h : Publication r m s t) (e : ∀ p, m p = m' p) : Publication r m' s t := funext e ▸ h

/-- A STAGED berth that is published (R64). -/
theorem publication_publish (s : State) (r : RingId) (i : Nat) (hs : (s.ringBerth r i).state = .staged) :
    Publication r (fun p => p == s.poolIndex r i) s (s.publish r i) := by
  have hp : s.poolIndex r i < 2048 := berth_lt_of_live s _ fun free => nomatch hs.symm.trans free
  have changes := publishes_publish s r i
  have marked := inner_modBerth r s (s.poolIndex r i) fun b => { b with state := .ready }
  have berth : (s.modBerth (s.poolIndex r i) fun b => { b with state := .ready }).ringBerth r i =
      { s.ringBerth r i with state := .ready } := by
    rw [State.ringBerth, marked.poolIndex]
    exact berth_modBerth_same s _ _ hp
  have formed := ringBerth_formPending (s.modBerth (s.poolIndex r i) fun b => { b with state := .ready }) r i
    (by rwa [marked.poolIndex])
  rw [marked.poolIndex, berth, marked.published] at formed
  have inner := marked.trans (inner_formPending _ r i)
  have places := (holds_formPending (s.modBerth (s.poolIndex r i) fun b => { b with state := .ready }) r i).trans
    (holds_modBerth s _ _)
  have whole : s.publish r i = (((s.modBerth (s.poolIndex r i) fun b => { b with state := .ready }).formPending r i).releaseHolds
      (s.poolIndex r i) .okay) := rfl
  generalize (s.modBerth (s.poolIndex r i) fun b => { b with state := .ready }).formPending r i = f at formed inner places whole
  obtain ⟨counters, released⟩ := releaseHolds_spec f (s.poolIndex r i) .okay
  rw [whole]
  refine ⟨inner.trans (inner_releaseHolds r f _ _), fun p hp => ?_, fun p hp => ?_, fun p hp => ?_, ?_⟩
  · rw [beq_iff_eq.mp hp]
    exact hs
  · rw [beq_iff_eq.mp hp, berth_congr f _ _ (by rw [released]), formed]
    rfl
  · rw [← whole]
    exact changes.berth p (beq_eq_false_iff_ne.mp hp)
  · rw [released, places]
    rfl

theorem stagedAmong_iff {l : List Nat} {p : Nat} : s.stagedAmong r l p = true ↔
    (s.berth p).state = .staged ∧ ∃ i ∈ l, p = s.poolIndex r i := by
  simp only [State.stagedAmong, Bool.and_eq_true, beq_iff_eq, List.any_eq_true]

theorem publication_publishStaged (s : State) (r : RingId) (i : Nat) :
    Publication r (s.stagedAmong r [i]) s (s.publishStaged r i) := by
  have among (p : Nat) : s.stagedAmong r [i] p = true ↔ (s.ringBerth r i).state = .staged ∧ p = s.poolIndex r i := by
    rw [stagedAmong_iff]
    simp only [List.mem_singleton, exists_eq_left]
    refine and_congr_left fun here => ?_
    rw [here]
    rfl
  unfold State.publishStaged
  split
  · next staged =>
    refine (publication_publish s r i staged).congr fun p => Bool.eq_iff_iff.mpr ?_
    rw [among, beq_iff_eq]
    exact ⟨fun here => ⟨staged, here⟩, fun h => h.2⟩
  · next other =>
    exact (Publication.refl r s).congr fun p => (Bool.eq_false_iff.mpr fun h => other ((among p).mp h).1).symm

/-- What is still STAGED after a publication was STAGED and not published. -/
theorem Publication.staged_iff (h : Publication r m s t) (p : Nat) :
    (t.berth p).state = .staged ↔ (s.berth p).state = .staged ∧ m p = false := by
  cases hp : m p with
  | true => simp [h.notStaged hp]
  | false => simp [h.kept p hp]

/-- Publications one after the other of what is STAGED among two lists. -/
theorem Publication.append {l l' : List Nat} (h : Publication r (s.stagedAmong r l) s t)
    (h' : Publication r (t.stagedAmong r l') t u) : Publication r (s.stagedAmong r (l ++ l')) s u := by
  refine (h.trans h').congr fun p => Bool.eq_iff_iff.mpr ?_
  rw [Bool.or_eq_true, stagedAmong_iff, stagedAmong_iff, stagedAmong_iff, h.staged_iff]
  simp only [h.inner.poolIndex, List.mem_append]
  constructor
  · rintro (⟨staged, i, hi, here⟩ | ⟨⟨staged, -⟩, i, hi, here⟩)
    · exact ⟨staged, i, .inl hi, here⟩
    · exact ⟨staged, i, .inr hi, here⟩
  · rintro ⟨staged, i, hi | hi, here⟩
    · exact .inl ⟨staged, i, hi, here⟩
    · cases first : s.stagedAmong r l p with
      | true => exact .inl (stagedAmong_iff.mp first)
      | false => exact .inr ⟨⟨staged, rfl⟩, i, hi, here⟩

theorem publication_foldl (r : RingId) (l : List Nat) (s : State) :
    Publication r (s.stagedAmong r l) s (l.foldl (fun s i => s.publishStaged r i) s) := by
  induction l generalizing s with
  | nil => exact (Publication.refl r s).congr fun p => (Bool.and_false _).symm
  | cons i l ih => exact (publication_publishStaged s r i).append (ih _)

/-! ## All STAGED berths of a ring -/

theorem mem_insertOrdered {α : Type} (precedes : α → α → Bool) (a x : α) (l : List α) :
    x ∈ insertOrdered precedes a l ↔ x = a ∨ x ∈ l := by
  induction l with
  | nil => exact List.mem_cons
  | cons b l ih =>
    unfold insertOrdered
    split
    · exact List.mem_cons
    · rw [List.mem_cons, ih, List.mem_cons, or_left_comm]

theorem mem_sortOrdered {α : Type} (precedes : α → α → Bool) (x : α) (l : List α) :
    x ∈ sortOrdered precedes l ↔ x ∈ l := by
  induction l with
  | nil => exact Iff.rfl
  | cons a l ih => rw [sortOrdered, mem_insertOrdered, ih, List.mem_cons]

theorem mem_orderedBases (start : Seq) (bases : List Seq) (x : Seq) : x ∈ orderedBases start bases ↔ x ∈ bases := by
  rw [orderedBases, mem_sortOrdered, List.mem_eraseDups]

theorem mem_orderedMembers (size : Nat) (base : Seq) (berths : List (Nat × Seq)) (i : Nat) :
    i ∈ orderedMembers size base berths ↔ ∃ q, (i, q) ∈ berths ∧ inGroup size base q = true := by
  simp only [orderedMembers, List.mem_map, mem_sortOrdered, List.mem_filter, Prod.exists, exists_and_right, exists_eq_right]

theorem mem_stagedBerths (s : State) (r : RingId) (i : Nat) (q : Seq) : (i, q) ∈ s.stagedBerths r ↔
    i ∈ s.berthIndices r ∧ (s.ringBerth r i).state = .staged ∧ seqField (s.ringBerth r i) = q := by
  simp only [State.stagedBerths, List.mem_filterMap]
  constructor
  · rintro ⟨j, hj, e⟩
    split at e
    · next staged =>
      obtain ⟨rfl, rfl⟩ := Prod.mk.inj (Option.some.inj e)
      exact ⟨hj, staged, rfl⟩
    · exact nomatch e
  · rintro ⟨hi, staged, rfl⟩
    exact ⟨i, hi, if_pos staged⟩

/-- A sequence lies in its own group (R66). -/
theorem inGroup_groupBase (size : Nat) (start t : Seq) (h1 : 1 ≤ size) (h2 : size ≤ 16) :
    inGroup size (groupBase size start t) t = true := by
  have pos : (0 : Int) < size := by omega
  have low := Int.emod_nonneg (signedDiff t start) pos.ne'
  have high := Int.emod_lt_of_pos (signedDiff t start) pos
  have small : groupPosition size start t < size := by
    unfold groupPosition
    omega
  rw [inGroup, groupBase, sub_sub_cancel, decide_eq_true_eq, BitVec.toNat_ofNat, Nat.mod_eq_of_lt (by omega)]
  exact small

/-- The groups of some bases publish STAGED berths of the ring alone (R73). -/
theorem publication_publishGroups (s : State) (r : RingId) (bases : List Seq) :
    ∃ l, (∀ i ∈ l, i ∈ s.berthIndices r) ∧ Publication r (s.stagedAmong r l) s (s.publishGroups r bases) := by
  refine ⟨_, fun i hi => ?_, publication_foldl r _ s⟩
  obtain ⟨base, -, member⟩ := List.mem_flatMap.mp hi
  obtain ⟨q, staged, -⟩ := (mem_orderedMembers _ _ _ _).mp member
  exact ((mem_stagedBerths s r i q).mp staged).1

theorem publication_groupTest (s : State) (r : RingId) :
    ∃ l, (∀ i ∈ l, i ∈ s.berthIndices r) ∧ Publication r (s.stagedAmong r l) s (s.groupTest r) := by
  unfold State.groupTest
  split
  · exact publication_publishGroups s r _
  · exact ⟨[], nofun, (Publication.refl r s).congr fun p => (Bool.and_false _).symm⟩

/-- The group bases of the STAGED berths lead to all of them (R73, R74). -/
theorem publication_publishAllStaged (s : State) (r : RingId) (h1 : 1 ≤ s.rings[r].profile.groupSize)
    (h2 : s.rings[r].profile.groupSize ≤ 16) : Publication r (s.publishes r) s (s.publishAllStaged r) := by
  refine (publication_foldl r _ s).congr fun p => Bool.eq_iff_iff.mpr ?_
  rw [State.publishes, ← State.stagedAmong, stagedAmong_iff, stagedAmong_iff]
  refine and_congr_right fun staged => exists_congr fun i => and_congr_left fun here => ?_
  simp only [List.mem_flatMap, mem_orderedMembers, mem_stagedBerths]
  constructor
  · rintro ⟨base, -, q, ⟨hi, -⟩, -⟩
    exact hi
  · intro hi
    have known : (s.ringBerth r i).state = .staged := by rwa [here] at staged
    refine ⟨groupBase s.rings[r].profile.groupSize (s.rings[r].tracking.groupStart.getD 0) (seqField (s.ringBerth r i)), ?_,
      seqField (s.ringBerth r i), ⟨hi, known, rfl⟩, inGroup_groupBase _ _ _ h1 h2⟩
    rw [State.stagedBases, mem_orderedBases, List.mem_map]
    exact ⟨(i, seqField (s.ringBerth r i)), (mem_stagedBerths s r i _).mpr ⟨hi, known, rfl⟩, rfl⟩

/-- After the publication of some of a ring's STAGED berths, that of all that are left leaves all of them published. -/
theorem Publication.all {l : List Nat} (h : Publication r (s.stagedAmong r l) s t) (hl : ∀ i ∈ l, i ∈ s.berthIndices r)
    (h' : Publication r (t.publishes r) t u) : Publication r (s.publishes r) s u := by
  refine (h.append (l' := t.berthIndices r) h').congr fun p => Bool.eq_iff_iff.mpr ?_
  rw [State.publishes, ← State.stagedAmong, stagedAmong_iff, stagedAmong_iff, h.inner.berthIndices]
  refine and_congr_right fun _ => exists_congr fun i => and_congr_left fun _ => ?_
  rw [List.mem_append]
  exact ⟨fun hi => hi.elim (hl i) id, .inr⟩

end

end Sys2Proof.Machine
end

-- ==== Closing a ring out ====
section
/-! PROOFS. What a loss of lock and an entry to FAULT_HELD do to the berths and the entries of a ring (steps 2 to 4 of R30 and
of R140): the FILLING current berth is abandoned, what is STAGED is published, and the other entries end (R99, R103). -/

namespace Sys2Proof.Machine

open Sys2Proof Sys2Proof.Config

/-! ## Damage in full -/

/-- The outcome of the entries on a berth of the ring that is damaged (R99). -/
def RingRecord.damagedOutcome (g : RingRecord) : ReadOutcome := if g.profile.poisonDamaged then .poisoned else .okay

theorem readOutcome_damaged (g : RingRecord) : readOutcome g .damaged = g.damagedOutcome := rfl

theorem inner_damageOnly (s : State) (r : RingId) (i : Nat) (cause : DamageCause) :
    Inner r (s.markDamaged r i cause) (s.damageOnly r i cause) :=
  (inner_formPending _ r i).trans (inner_releaseHolds r _ _ _)

theorem holds_damageOnly (s : State) (r : RingId) (i : Nat) (cause : DamageCause) : (s.damageOnly r i cause).holds =
    s.holds.map (HoldPlace.releasedOn (fun p => p == s.poolIndex r i) s.rings[r].damagedOutcome) := by
  obtain ⟨counters, released⟩ := releaseHolds_spec ((s.markDamaged r i cause).formPending r i) (s.poolIndex r i)
    (readOutcome s.rings[r] .damaged)
  have places : ((s.markDamaged r i cause).formPending r i).holds = s.holds := by
    rw [holds_formPending, State.markDamaged, holds_count, holds_raise, holds_modBerth]
  rw [State.damageOnly, released, places, readOutcome_damaged]
  rfl

/-! ## Abandonment and publication -/

/-- A berth as a loss of lock or a fault hold leaves it: abandoned, published, or as it was (steps 2 and 3 of R30, R140). -/
def State.closedBerth (s : State) (r : RingId) (p : Nat) : Berth :=
  if s.abandons r p then
    s.rings[r].published .damaged { s.berth p with damage := some ((s.berth p).damage.getD .abandoned) }
  else if s.publishes r p then s.rings[r].published .ready (s.berth p)
  else s.berth p

/-- What the abandonment and the publication of a ring leave. -/
structure Closes (r : RingId) (s t : State) : Prop where
  inner : Inner r { s with report := (s.abandonReported r).report } t
  berth : ∀ p : Nat, t.berth p = s.closedBerth r p
  holds : t.holds = s.holds.map (s.closedHold r)

theorem closes_of_nothingFilling (s t : State) (r : RingId) (hf : s.fillingCurrent r = none)
    (h : Publication r (s.publishes r) s t) : Closes r s t := by
  have keeps (p : Nat) : s.abandons r p = false := by
    rw [State.abandons, hf]
    rfl
  have reported : s.abandonReported r = s := by
    rw [State.abandonReported, hf]
  refine ⟨by rw [reported]; exact h.inner, fun p => ?_, ?_⟩
  · rw [State.closedBerth, keeps, if_neg Bool.false_ne_true]
    split
    · next published => exact h.ready p published
    · next other => exact h.kept p (Bool.eq_false_iff.mpr other)
  · rw [h.holds]
    refine List.map_congr_left fun x _ => ?_
    rw [State.closedHold, keeps, Bool.and_false, if_neg Bool.false_ne_true]
    rfl

theorem inner_markDamaged (s : State) (r : RingId) (i : Nat) (cause : DamageCause) :
    Inner r { s with report := (s.raise (damagedRecord r i cause (s.ringBerth r i))).report } (s.markDamaged r i cause) := by
  obtain ⟨pool, marked⟩ := modBerth_pool s (s.poolIndex r i) fun b => { b with damage := some cause, state := .damaged }
  refine inner_of_rings r (rings_markDamaged s r i cause) ⟨pool, s.holds, (s.count r .berthsDamaged).counters, ?_⟩
  rw [← report_markDamaged, State.markDamaged, raise_eq, marked]
  rfl

/-- The damage of a berth that is not STAGED leaves the ring's STAGED berths (R40). -/
theorem publishes_damaged {s d : State} {r : RingId} {i : Nat} (index : ∀ i, d.poolIndex r i = s.poolIndex r i)
    (indices : d.berthIndices r = s.berthIndices r)
    (here : (d.ringBerth r i).state ≠ .staged) (filling : (s.ringBerth r i).state = .filling)
    (others : ∀ p : Nat, p ≠ s.poolIndex r i → d.berth p = s.berth p) : d.publishes r = s.publishes r := by
  funext p
  rw [State.publishes, State.publishes, indices]
  simp only [index]
  by_cases elsewhere : p = s.poolIndex r i
  · rw [elsewhere]
    rw [State.ringBerth, index] at here
    have notStaged : (s.berth (s.poolIndex r i)).state ≠ .staged := filling ▸ nofun
    rw [beq_eq_false_iff_ne.mpr here, beq_eq_false_iff_ne.mpr notStaged]
  · rw [others p elsewhere]

/-- A FILLING current berth is abandoned, and then what is STAGED is published. -/
theorem closes_of_damaged (s t : State) (r : RingId) (i : Nat) (hf : s.fillingCurrent r = some i)
    (h : Publication r ((s.damageOnly r i ((s.ringBerth r i).damage.getD .abandoned)).publishes r)
      (s.damageOnly r i ((s.ringBerth r i).damage.getD .abandoned)) t) : Closes r s t := by
  have filling := fillingCurrent_filling hf
  have hp : s.poolIndex r i < 2048 := berth_lt_of_live s _ fun free => nomatch filling.symm.trans free
  have abandons (p : Nat) : s.abandons r p = (p == s.poolIndex r i) := by
    rw [State.abandons, hf]
    rfl
  have reported : s.abandonReported r =
      s.raise (damagedRecord r i ((s.ringBerth r i).damage.getD .abandoned) (s.ringBerth r i)) := by
    rw [State.abandonReported, hf]
  have inner := (inner_markDamaged s r i ((s.ringBerth r i).damage.getD .abandoned)).trans
    (inner_damageOnly s r i ((s.ringBerth r i).damage.getD .abandoned))
  rw [← reported] at inner
  have here := berth_damageOnly s r i ((s.ringBerth r i).damage.getD .abandoned) hp
  have others := berth_damageOnly_other s r i ((s.ringBerth r i).damage.getD .abandoned)
  have places := holds_damageOnly s r i ((s.ringBerth r i).damage.getD .abandoned)
  generalize s.damageOnly r i ((s.ringBerth r i).damage.getD .abandoned) = d at *
  have index : d.poolIndex r i = s.poolIndex r i := inner.poolIndex i
  have damaged : (d.ringBerth r i).state ≠ .staged := by
    rw [State.ringBerth, index, here]
    exact state_published_ne _ _ nofun nofun
  have publishes : d.publishes r = s.publishes r := publishes_damaged inner.poolIndex inner.berthIndices damaged filling others
  have notPublished : s.publishes r (s.poolIndex r i) = false := by
    rw [State.publishes, show (s.berth (s.poolIndex r i)).state = .filling from filling]
    rfl
  rw [publishes] at h
  refine ⟨inner.trans h.inner, fun p => ?_, ?_⟩
  · rw [State.closedBerth, abandons]
    by_cases elsewhere : p = s.poolIndex r i
    · rw [if_pos (beq_iff_eq.mpr elsewhere), elsewhere, h.kept _ notPublished, here]
      rfl
    · rw [if_neg (fun e => elsewhere (beq_iff_eq.mp e))]
      split
      · next published => rw [h.ready p published, inner.published, others p elsewhere]
      · next other => rw [h.kept p (Bool.eq_false_iff.mpr other), others p elsewhere]
  · rw [h.holds, places, List.map_map]
    refine List.map_congr_left fun x _ => ?_
    rw [Function.comp_apply, State.closedHold, abandons]
    unfold HoldPlace.releasedOn
    split
    · rfl
    · rfl

/-- An abandonment and the publication of all that is STAGED close the ring's berths (steps 2 and 3 of R30 and R140). -/
theorem closes (s : State) (r : RingId) (h1 : 1 ≤ s.rings[r].profile.groupSize) (h2 : s.rings[r].profile.groupSize ≤ 16) :
    Closes r s ((s.abandonCurrent r).publishAllStaged r) := by
  have layout := profile_of_layout (layout_abandonCurrent s r r)
  rw [← layout] at h1 h2
  have published := publication_publishAllStaged (s.abandonCurrent r) r h1 h2
  cases hf : s.fillingCurrent r with
  | none =>
    have same : s.abandonCurrent r = s := by
      rw [State.abandonCurrent, hf]
    rw [same] at published ⊢
    exact closes_of_nothingFilling s _ r hf published
  | some i =>
    have damaged : s.abandonCurrent r =
        (s.damageOnly r i ((s.ringBerth r i).damage.getD .abandoned)).groupTest r := by
      rw [State.abandonCurrent, hf]
      exact damage_eq s r i .abandoned (fillingCurrent_filling hf)
    rw [damaged] at published ⊢
    obtain ⟨l, among, tested⟩ := publication_groupTest (s.damageOnly r i ((s.ringBerth r i).damage.getD .abandoned)) r
    exact closes_of_damaged s _ r i hf (tested.all among published)

/-! ## The entries that end -/

/-- An entry that the closed berths leave waiting, on a berth neither READY nor DAMAGED, is one that was to end (R103). -/
theorem Closes.unready {r : RingId} {s t : State} (h : Closes r s t) (x : HoldPlace) :
    ((s.closedHold r x).waiting && t.unreadyHold r (s.closedHold r x)) = s.endsHold r x := by
  unfold State.endsHold State.closedHold
  cases waits : x.waiting with
  | false => simp [waits]
  | true =>
    cases abandoned : s.abandons r x.berth with
    | true => simp [HoldPlace.waiting]
    | false =>
      cases published : s.publishes r x.berth with
      | true => simp [HoldPlace.waiting]
      | false =>
        have kept : t.berth x.berth = s.berth x.berth := by
          rw [h.berth, State.closedBerth, abandoned, published]
          rfl
        simp [waits, State.unreadyHold, kept]

/-- The entries that end when a ring is closed out. -/
theorem Closes.ended {r : RingId} {s t : State} (h : Closes r s t) :
    t.holds.filter (fun x => x.waiting && t.unreadyHold r x) = (s.endedHolds r).map (s.closedHold r) := by
  rw [h.holds, List.filter_map]
  exact congrArg (List.map _) (List.filter_congr fun x _ => h.unready x)

/-- What is abandoned is FILLING. -/
theorem filling_of_abandons {s : State} {r : RingId} {p : Nat} (h : s.abandons r p = true) : (s.berth p).state = .filling := by
  rw [State.abandons, Option.any_eq_true] at h
  obtain ⟨i, hf, here⟩ := h
  rw [beq_iff_eq.mp here]
  exact fillingCurrent_filling hf

theorem read_closedHold (s : State) (r : RingId) (x : HoldPlace) : (s.closedHold r x).read = x.read := by
  unfold State.closedHold
  split
  · rfl
  · split <;> rfl

/-! ## The ring closed out -/

/-- Steps 2 to 4 of R30 and of R140. -/
def State.closeOut (r : RingId) (s : State) : State :=
  let t := (s.abandonCurrent r).publishAllStaged r
  t.endHolds true (t.unreadyHold r)

/-- A closed ring whose other entries end is closed out. -/
theorem Closes.closedOut {r : RingId} {s t : State} (h : Closes r s t) :
    s.closedOut r (t.endHolds true (t.unreadyHold r)) := by
  obtain ⟨rings, pool, holds, counters, frame⟩ := h.inner.frame
  obtain ⟨k, ended, -⟩ := endHolds_spec t true (t.unreadyHold r)
  have index (i : Nat) : (t.endHolds true (t.unreadyHold r)).poolIndex r i = s.poolIndex r i := by
    rw [ended]
    exact h.inner.poolIndex i
  have berth (i : Nat) : (t.endHolds true (t.unreadyHold r)).ringBerth r i = s.closedBerth r (s.poolIndex r i) := by
    rw [State.ringBerth, index, berth_congr t _ _ (by rw [ended]), h.berth]
  refine ⟨fun i hf => ?_, fun i hi staged => ?_, ?_, ?_⟩
  · rw [berth, State.closedBerth, State.abandons, hf, Option.any_some, if_pos (beq_self_eq_true _)]
    rfl
  · have published : s.publishes r (s.poolIndex r i) = true := by
      rw [State.publishes, Bool.and_eq_true, beq_iff_eq, List.any_eq_true]
      exact ⟨staged, i, List.mem_range.mpr hi, beq_self_eq_true _⟩
    have kept : s.abandons r (s.poolIndex r i) = false :=
      Bool.eq_false_iff.mpr fun e => nomatch staged.symm.trans (filling_of_abandons e)
    rw [berth, State.closedBerth, kept, published]
    rfl
  · rw [ended]
    dsimp only
    rw [h.holds, List.filter_map]
    refine congrArg (List.map _) (List.filter_congr fun x _ => ?_)
    rw [Function.comp_apply, h.unready]
  · rw [ended, h.ended, frame]
    refine congrArg (s.responses ++ ·) ?_
    rw [notReadyResponses, notReadyResponses, List.map_map]
    exact List.map_congr_left fun x _ => by rw [Function.comp_apply, read_closedHold]

/-- What closing a ring out leaves. -/
structure ClosedOut (r : RingId) (s t : State) : Prop where
  closed : s.closedOut r t
  ring : ∃ n, t.rings[r] = { s.rings[r] with occupancy := n }
  rings : ∀ q : RingId, q ≠ r → t.rings[q] = s.rings[q]
  generation : ∀ p : Nat, (t.berth p).generation = (s.berth p).generation
  spares : Spares s t
  frame : ∃ rings pool holds responses counters, t =
    { s with
      rings := rings, pool := pool, holds := holds, responses := responses, counters := counters
      report := (s.abandonReported r).report }

theorem generation_published (g : RingRecord) (x : BerthState) (b : Berth) : (g.published x b).generation = b.generation := by
  unfold RingRecord.published
  split <;> rfl

theorem generation_closedBerth (s : State) (r : RingId) (p : Nat) : (s.closedBerth r p).generation = (s.berth p).generation := by
  unfold State.closedBerth
  split
  · exact generation_published _ _ _
  · split
    · exact generation_published _ _ _
    · rfl

theorem closedOut_closeOut (s : State) (r : RingId) (h1 : 1 ≤ s.rings[r].profile.groupSize)
    (h2 : s.rings[r].profile.groupSize ≤ 16) : ClosedOut r s (s.closeOut r) := by
  have closes := closes s r h1 h2
  have spares := ((spares_abandonCurrent s r).trans (spares_publishAllStaged _ r)).trans
    (spares_endHolds _ true (((s.abandonCurrent r).publishAllStaged r).unreadyHold r))
  unfold State.closeOut
  generalize (s.abandonCurrent r).publishAllStaged r = t at closes spares
  obtain ⟨k, ended, -⟩ := endHolds_spec t true (t.unreadyHold r)
  obtain ⟨rings, pool, holds, counters, frame⟩ := closes.inner.frame
  refine ⟨closes.closedOut, ?_, fun q other => ?_, fun p => ?_, spares, ?_⟩
  · rw [ended]
    exact closes.inner.ring
  · rw [ended]
    exact closes.inner.rings q other
  · rw [berth_congr t _ _ (by rw [ended]), closes.berth, generation_closedBerth]
  · rw [ended, frame]
    exact ⟨_, _, _, _, _, rfl⟩

end Sys2Proof.Machine
end

-- ==== Loss of lock and REFRAME ====
section
/-! PROOFS. A loss of lock closes its ring out, counts and reports itself, and REFRAME causes one (R30 to R32). -/

namespace Sys2Proof.Machine

open Sys2Proof Sys2Proof.Config

/-! ## Changes of a ring that leave what is closed out -/

/-- The ring record g' has the run, the roster and the current berth of g. -/
structure SameBerths (g g' : RingRecord) : Prop where
  profile : g'.profile = g.profile
  offset : g'.poolOffset = g.poolOffset
  roster : g'.roster = g.roster
  current : g'.tracking.current = g.tracking.current

section

variable {r : RingId} {s t : State} {f : RingRecord → RingRecord}

theorem poolIndex_modRing (h : SameBerths s.rings[r] (f s.rings[r])) (i : Nat) :
    (s.modRing r f).poolIndex r i = s.poolIndex r i := by
  simp only [State.poolIndex, RingRecord.poolIndex, RingRecord.poolBase, ring_modRing_same, h.offset]

theorem ringBerth_modRing (h : SameBerths s.rings[r] (f s.rings[r])) (i : Nat) :
    (s.modRing r f).ringBerth r i = s.ringBerth r i := by
  rw [State.ringBerth, poolIndex_modRing h, berth_modRing]
  rfl

theorem fillingCurrent_modRing (h : SameBerths s.rings[r] (f s.rings[r])) :
    (s.modRing r f).fillingCurrent r = s.fillingCurrent r := by
  unfold State.fillingCurrent
  rw [ring_modRing_same, h.current]
  cases s.rings[r].tracking.current with
  | none => rfl
  | some b =>
    dsimp only
    rw [ringBerth_modRing h]

theorem published_of_sameBerths {g g' : RingRecord} (h : SameBerths g g') (x : BerthState) (b : Berth) :
    g'.published x b = g.published x b := by
  have pending (q : Seq) : g'.pendingFor q = g.pendingFor q := by
    unfold RingRecord.pendingFor
    rw [h.roster]
  rw [RingRecord.published, pending]
  rfl

theorem abandons_modRing (h : SameBerths s.rings[r] (f s.rings[r])) : (s.modRing r f).abandons r = s.abandons r := by
  funext p
  simp only [State.abandons, fillingCurrent_modRing h, poolIndex_modRing h]

theorem publishes_modRing (h : SameBerths s.rings[r] (f s.rings[r])) : (s.modRing r f).publishes r = s.publishes r := by
  funext p
  simp only [State.publishes, State.berthIndices, ring_modRing_same, berth_modRing, h.profile, poolIndex_modRing h]

theorem endsHold_modRing (h : SameBerths s.rings[r] (f s.rings[r])) : (s.modRing r f).endsHold r = s.endsHold r := by
  funext x
  simp only [State.endsHold, State.unreadyHold, abandons_modRing h, publishes_modRing h, berth_modRing]

theorem endedHolds_modRing (h : SameBerths s.rings[r] (f s.rings[r])) : (s.modRing r f).endedHolds r = s.endedHolds r := by
  rw [State.endedHolds, endsHold_modRing h]
  rfl

theorem closedHold_modRing (h : SameBerths s.rings[r] (f s.rings[r])) : (s.modRing r f).closedHold r = s.closedHold r := by
  funext x
  simp only [State.closedHold, ring_modRing_same, h.profile, abandons_modRing h, publishes_modRing h]

theorem closedOut_modRing (h : SameBerths s.rings[r] (f s.rings[r])) : (s.modRing r f).closedOut r t ↔ s.closedOut r t := by
  simp only [State.closedOut, fillingCurrent_modRing h, ringBerth_modRing h, ring_modRing_same, published_of_sameBerths h,
    h.profile, endsHold_modRing h, closedHold_modRing h, endedHolds_modRing h, holds_modRing, responses_modRing]

theorem abandonReported_modRing (h : SameBerths s.rings[r] (f s.rings[r])) :
    ((s.modRing r f).abandonReported r).report = (s.abandonReported r).report := by
  unfold State.abandonReported
  rw [fillingCurrent_modRing h]
  split
  · rw [ringBerth_modRing h]
    exact report_raise_congr _ rfl rfl rfl
  · rfl

/-- What closes a ring out in its berths, its places and its responses. -/
theorem closedOut_congr {u : State} (h : s.closedOut r t) (hi : ∀ i, u.poolIndex r i = t.poolIndex r i) (hp : u.pool = t.pool)
    (hh : u.holds = t.holds) (hr : u.responses = t.responses) : s.closedOut r u := by
  have berth (i : Nat) : u.ringBerth r i = t.ringBerth r i := by
    rw [State.ringBerth, hi, berth_congr t u _ hp]
    rfl
  obtain ⟨abandoned, published, holds, responses⟩ := h
  exact ⟨fun i hf => (berth i).trans (abandoned i hf), fun i hi staged => (berth i).trans (published i hi staged),
    hh.trans holds, hr.trans responses⟩

end

theorem control_abandonReported (s : State) (r : RingId) : (s.abandonReported r).control = s.control := by
  unfold State.abandonReported
  split
  · exact control_raise _ _
  · rfl

theorem timeBase_abandonReported (s : State) (r : RingId) : (s.abandonReported r).timeBase = s.timeBase := by
  unfold State.abandonReported
  split
  · exact timeBase_raise _ _
  · rfl

/-! ## Loss of lock -/

/-- Ending entries has nothing to do with the ring records. -/
theorem endHolds_modTracking (s : State) (r : RingId) (f : Tracking → Tracking) (measured : Bool) (which : HoldPlace → Bool) :
    (s.modTracking r f).endHolds measured which = (s.endHolds measured which).modTracking r f := by
  have step (s : State) (h : HoldPlace) : (s.modTracking r f).endHold measured h = (s.endHold measured h).modTracking r f := by
    cases measured <;> rfl
  have all (l : List HoldPlace) (s : State) : l.foldl (fun s h => s.endHold measured h) (s.modTracking r f) =
      (l.foldl (fun s h => s.endHold measured h) s).modTracking r f := by
    induction l generalizing s with
    | nil => rfl
    | cons h l ih => rw [List.foldl_cons, step, ih, List.foldl_cons]
  exact all _ (s.modHolds fun hs => hs.filter fun h => !(h.waiting && which h))

theorem modTracking_modTracking (s : State) (r : RingId) (f g : Tracking → Tracking) :
    (s.modTracking r f).modTracking r g = s.modTracking r fun t => g (f t) := by
  rw [State.modTracking, State.modTracking, State.modTracking, State.modRing, ring_modRing_same]
  exact congrArg (fun v => { s with rings := v }) (Vector.set_set ..)

theorem unreadyHold_modTracking (s : State) (r q : RingId) (f : Tracking → Tracking) :
    (s.modTracking r f).unreadyHold q = s.unreadyHold q := rfl

/-- What the steps 3 and 5 of R30 make of the tracking fields. -/
def Tracking.lost (t : Tracking) : Tracking := { t.toSearch.toHunt with quietTimer := none, quietFlag := false }

theorem losingLock_eq (s : State) (r : RingId) :
    s.losingLock r = ((s.modTracking r Tracking.rememberLock).closeOut r).modTracking r Tracking.lost := by
  rw [State.losingLock, State.searching, unreadyHold_modTracking, endHolds_modTracking, modTracking_modTracking]
  rfl

theorem lost_rememberLock (t : Tracking) : t.rememberLock.lost =
    { t with
      align := .hunt, position := none, expected := none, current := none, candidateBerth := none
      candidateSeq := none, confirmProgress := 0, errorCount := 0, quietTimer := none, quietFlag := false
      prevLocked := if t.align = .locked then some (t.position.getD 0, t.expected.getD 0) else t.prevLocked
      group := if t.group = .off then .off else .search
      groupCandidate := if t.group = .off then t.groupCandidate else none
      groupStart := if t.group = .off then t.groupStart else none
      groupErrors := if t.group = .off then t.groupErrors else 0
      searchCount := if t.group = .off then t.searchCount else 0 } := by
  unfold Tracking.rememberLock Tracking.lost Tracking.toSearch Tracking.toHunt
  by_cases locked : t.align = .locked
  · by_cases off : t.group = .off
    · simp [locked, off]
    · simp [locked, off]
  · by_cases off : t.group = .off
    · simp [locked, off]
    · simp [locked, off]

theorem sameBerths_rememberLock (g : RingRecord) : SameBerths g { g with tracking := g.tracking.rememberLock } :=
  ⟨rfl, rfl, rfl, by unfold Tracking.rememberLock; split <;> rfl⟩

theorem reframe_taken {s : State} {r : RingId} (hv : s.rings[r].validity = .valid) (ho : s.rings[r].opState = .active)
    (ha : s.rings[r].tracking.align ≠ .hunt) : s.reframe r = .ok (s.loseLock r .command) := by
  cases align : s.rings[r].tracking.align with
  | hunt => exact absurd align ha
  | confirm => simp only [State.reframe, hv, ho, align, ne_eq, not_true, if_false]
  | locked => simp only [State.reframe, hv, ho, align, ne_eq, not_true, if_false]

/-- Settles O22: a loss of lock closes the ring out, and REFRAME is a command whose effect is one. -/
theorem lossOfLockTakesItsSteps : Obligations.LossOfLockTakesItsSteps := by
  intro s r
  constructor
  · intro cause sound old t
    have same := sameBerths_rememberLock s.rings[r]
    have remembered : (s.modTracking r Tracking.rememberLock).rings[r] =
        { s.rings[r] with tracking := s.rings[r].tracking.rememberLock } := ring_modRing_same s r _
    have out := closedOut_closeOut (s.modTracking r Tracking.rememberLock) r (by rw [remembered]; exact sound.2.1)
      (by rw [remembered]; exact sound.2.2)
    have whole : t = _ := loseLock_eq s r cause
    rw [losingLock_eq] at whole
    generalize (s.modTracking r Tracking.rememberLock).closeOut r = e at out whole
    obtain ⟨n, ring⟩ := out.ring
    obtain ⟨rings, pool, holds, responses, counters, frame⟩ := out.frame
    have here : t.rings[r] = { s.rings[r] with occupancy := n, tracking := s.rings[r].tracking.rememberLock.lost } := by
      rw [whole, rings_count, rings_raise, State.modTracking, ring_modRing_same, ring, remembered]
    refine ⟨?_, by rw [here], ?_, counter_loseLock s r r cause .lockLosses nofun nofun, ?_, ?_, fun q other => ?_⟩
    · refine (closedOut_modRing same).mp (closedOut_congr out.closed (fun i => ?_) ?_ ?_ ?_)
      · rw [State.poolIndex, here, State.poolIndex, ring, remembered]
        rfl
      · rw [whole, pool_count, pool_raise, pool_modTracking]
      · rw [whole, holds_count, holds_raise, holds_modTracking]
      · rw [whole, responses_count, responses_raise, responses_modTracking]
    · rw [here]
      exact lost_rememberLock _
    · rw [whole, report_count]
      refine report_raise_congr _ ?_ ?_ ?_
      · rw [control_abandonReported, frame]
        rfl
      · rw [report_modTracking, frame]
        exact abandonReported_modRing same
      · rw [timeBase_abandonReported, frame]
        rfl
    · rw [whole, port_count, port_raise, port_modTracking, frame]
      rfl
    · rw [whole, rings_count, rings_raise, State.modTracking, ring_modRing_other _ _ _ _ other, out.rings q other]
      exact ring_modRing_other s r q _ other
  · intro w ht ho ha
    have ⟨⟨_, _, _, _, opcode⟩, ring, _, valid⟩ := ht
    have taken : (s.commanded w).execute (commandOf 0x300 w) = .ok ((s.commanded w).loseLock r .command) :=
      (execute_reframe (by rw [opcode]; rfl) ring).trans (reframe_taken (s := s.commanded w) valid ho ha)
    exact exec_ringCommand _ w s _ r 4 rfl ht (by decide) (by decide) taken

end Sys2Proof.Machine
end

-- ==== Fault hold and quiet expiry ====
section
/-! PROOFS. A foreign write and a claim conflict (R59, R60), the entry to FAULT_HELD that these cause under strict (R140), and
the expiry of a quiet timer (R38). -/

namespace Sys2Proof.Machine

open Sys2Proof Sys2Proof.Config

/-! ## Fault hold -/

theorem faultHold_none (s : State) (r : RingId) (cause : ReportKind) (index : Nat) (initiator : Byte)
    (h : s.rings[r].profile.strict = false) : s.faultHold r cause index initiator = s := by
  unfold State.faultHold
  dsimp only
  rw [h]
  rfl

/-- The entries that end in a fault hold are those that the closed berths leave waiting on a berth neither READY nor DAMAGED. -/
theorem ended_length (s : State) (r : RingId) (h1 : 1 ≤ s.rings[r].profile.groupSize)
    (h2 : s.rings[r].profile.groupSize ≤ 16) :
    let t := (s.abandonCurrent r).publishAllStaged r
    (t.holds.filter fun h => h.waiting && t.unreadyHold r h).length = (s.endedHolds r).length := by
  intro t
  rw [(closes s r h1 h2).ended, List.length_map]

/-- A ring enters FAULT_HELD: it is closed out, its quiet timer stops, and FAULT_HELD is raised (R140). -/
theorem faultHold_eq (s : State) (r : RingId) (cause : ReportKind) (index : Nat) (initiator : Byte)
    (hs : s.rings[r].profile.strict = true) (ho : s.rings[r].opState = .active) (h1 : 1 ≤ s.rings[r].profile.groupSize)
    (h2 : s.rings[r].profile.groupSize ≤ 16) :
    let held := s.modRing r fun g => { g with opState := .faultHeld }
    let e := held.closeOut r
    s.faultHold r cause index initiator = (e.modTracking r fun t => { t with quietTimer := none }).raise
      { kind := .faultHeld, ring := ringField r, berth := berthField index, seq := seqField (e.ringBerth r index)
        initiator := initiator, detail := BitVec.ofNat 8 cause.code
        extra := BitVec.ofNat 32 (held.endedHolds r).length } := by
  intro held e
  have ring : held.rings[r] = { s.rings[r] with opState := .faultHeld } := ring_modRing_same s r _
  rw [← ended_length held r (by rw [ring]; exact h1) (by rw [ring]; exact h2)]
  have enters : (s.rings[r].profile.strict && decide (s.rings[r].opState = .active)) = true := by
    rw [hs, ho]
    rfl
  exact if_pos enters

/-- What an entry to FAULT_HELD leaves (R34, R140). -/
theorem heldTo_faultHold (s : State) (r : RingId) (cause : ReportKind) (index : Nat) (initiator : Byte)
    (hs : s.rings[r].profile.strict = true) (ho : s.rings[r].opState = .active) (sound : s.ringSound r) :
    s.heldTo r (BitVec.ofNat 8 cause.code) index initiator (s.faultHold r cause index initiator) := by
  have same : SameBerths s.rings[r] { s.rings[r] with opState := .faultHeld } := ⟨rfl, rfl, rfl, rfl⟩
  have whole := faultHold_eq s r cause index initiator hs ho sound.2.1 sound.2.2
  have held : (s.modRing r fun g => { g with opState := .faultHeld }).rings[r] = { s.rings[r] with opState := .faultHeld } :=
    ring_modRing_same s r _
  have out := closedOut_closeOut (s.modRing r fun g => { g with opState := .faultHeld }) r (by rw [held]; exact sound.2.1)
    (by rw [held]; exact sound.2.2)
  dsimp only at whole
  rw [endedHolds_modRing (f := fun g => { g with opState := .faultHeld }) same] at whole
  generalize s.faultHold r cause index initiator = t at whole
  generalize (s.modRing r fun g => { g with opState := .faultHeld }).closeOut r = e at out whole
  obtain ⟨n, ring⟩ := out.ring
  obtain ⟨rings, pool, holds, responses, counters, frame⟩ := out.frame
  have here : t.rings[r] = { s.rings[r] with
      occupancy := n, opState := .faultHeld, tracking := { s.rings[r].tracking with quietTimer := none } } := by
    rw [whole, rings_raise, State.modTracking, ring_modRing_same, ring, held]
  have berth (p : Nat) : t.berth p = e.berth p := by
    rw [whole, berth_raise, berth_modTracking]
  have index' (i : Nat) : t.poolIndex r i = e.poolIndex r i := by
    rw [State.poolIndex, here, State.poolIndex, ring, held]
    rfl
  have named : t.ringBerth r index = e.ringBerth r index := by
    rw [State.ringBerth, index', berth]
    rfl
  refine ⟨?_, by rw [here], by rw [here], by rw [here], ?_, fun c hd hp => ?_, fun p => ?_, fun q other => ?_, ?_, ?_, ?_⟩
  · refine (closedOut_modRing same).mp (closedOut_congr out.closed index' ?_ ?_ ?_)
    · rw [whole, pool_raise, pool_modTracking]
    · rw [whole, holds_raise, holds_modTracking]
    · rw [whole, responses_raise, responses_modTracking]
  · rw [named, whole]
    refine report_raise_congr _ ?_ ?_ ?_
    · rw [control_abandonReported, frame]
      rfl
    · rw [report_modTracking, frame]
      exact abandonReported_modRing same
    · rw [timeBase_abandonReported, frame]
      rfl
  · have counters : t.counters = e.counters := by
      rw [whole, counters_raise, counters_modTracking]
    exact (counter_congr counters r c).trans (out.spares.counter r c hp hd)
  · rw [berth, out.generation]
    rfl
  · rw [whole, rings_raise, State.modTracking, ring_modRing_other _ _ _ _ other, out.rings q other]
    exact ring_modRing_other s r q _ other
  · rw [whole, verify_raise, verify_modTracking, frame]
    rfl
  · rw [whole, port_raise, port_modTracking, frame]
    rfl
  · rw [whole, control_raise, control_modTracking, frame]
    rfl

/-! ## Foreign writes and claim conflicts -/

section

variable {s : State} {i : Instr} {w : WriteTx} {r : RingId} {b offset : Nat} (hi : i.transaction? = some (.write w))
  (ht : s.takesWrite w) (ha : s.classify w.address = .window r b offset) (ho : s.rings[r].opState = .active)

include hi ht ha ho

theorem exec_foreignWrite (hp : s.rings[r].profile.isProducer w.initiator = false) :
    exec i s = .next (s.settleReleases (s.refuseForeign r b w)) := by
  rw [exec_write_routed i w s hi ht, ha, State.routeWrite, State.writeWindow, ho]
  dsimp only
  rw [hp]
  rfl

theorem exec_claimConflict (hp : s.rings[r].profile.isProducer w.initiator = true) (hf : (s.ringBerth r b).state = .filling)
    (hc : (s.ringBerth r b).claimant ≠ some w.initiator) : exec i s = .next (s.settleReleases (s.refuseConflict r b w)) := by
  have conflict : s.claimConflict r b w = true := by
    rw [State.claimConflict, hf, bne_iff_ne.mpr hc]
    rfl
  rw [exec_write_routed i w s hi ht, ha, State.routeWrite, State.writeWindow, ho]
  dsimp only
  rw [hp, State.producerWrite, conflict]
  rfl

end

/-- A refusal that holds a strict ring: without strict nothing else changes, under strict the ring enters FAULT_HELD. -/
theorem refused_or_held (s : State) (r : RingId) (b : Nat) (w : WriteTx) (c : Record) (cause : ReportKind)
    (ho : s.rings[r].opState = .active) :
    let refused := s.refuseInWindow r c w
    (s.rings[r].profile.strict = false →
        s.settleReleases (refused.faultHold r cause b (initiatorField w.initiator)) = refused) ∧
      (s.rings[r].profile.strict = true → s.ringSound r → refused.heldTo r (BitVec.ofNat 8 cause.code) b
        (initiatorField w.initiator) (refused.faultHold r cause b (initiatorField w.initiator))) := by
  intro refused
  have ring : refused.rings[r] = s.rings[r] := by
    rw [show refused.rings = s.rings from rings_refuseInWindow s r c w]
  constructor
  · intro lax
    rw [faultHold_none refused r cause b _ (by rw [ring]; exact lax)]
    exact settle_refuseInWindow s r c w
  · intro strict sound
    refine heldTo_faultHold refused r cause b _ (by rw [ring]; exact strict) (by rw [ring]; exact ho) ?_
    rw [State.ringSound, ring]
    exact sound

/-- Settles O29. -/
theorem foreignAndConflictingWritesAreRefused : Obligations.ForeignAndConflictingWritesAreRefused := by
  intro s i w r b offset hi ht ha ho
  constructor
  · intro hp
    obtain ⟨lax, strict⟩ := refused_or_held s r b w
      { kind := .foreignWrite, ring := ringField r, berth := berthField b, initiator := initiatorField w.initiator }
      .foreignWrite ho
    rw [exec_foreignWrite hi ht ha ho hp]
    exact ⟨fun h => congrArg _ (lax h), fun h sound => ⟨_, rfl, strict h sound⟩⟩
  · intro hp hf hc
    obtain ⟨lax, strict⟩ := refused_or_held s r b w
      { kind := .claimConflict, ring := ringField r, berth := berthField b, seq := seqField (s.ringBerth r b)
        initiator := initiatorField w.initiator } .claimConflict ho
    rw [exec_claimConflict hi ht ha ho hp hf hc]
    exact ⟨fun h => congrArg _ (lax h), fun h sound => ⟨_, rfl, strict h sound⟩⟩

/-! ## Quiet expiry -/

/-- A record raised has nothing to do with the tracking fields. -/
theorem raise_modTracking (s : State) (c : Record) (r : RingId) (f : Tracking → Tracking) :
    (s.raise c).modTracking r f = (s.modTracking r f).raise c := by
  rw [raise_eq, raise_eq (s.modTracking r f), report_raise_congr (s := s) (t := s.modTracking r f) c rfl rfl rfl]
  rfl

theorem fillingCurrent_raise (s : State) (c : Record) (r : RingId) : (s.raise c).fillingCurrent r = s.fillingCurrent r := by
  have berth (i : Nat) : (s.raise c).ringBerth r i = s.ringBerth r i := by
    rw [State.ringBerth, poolIndex_congr (rings_raise s c), berth_raise]
    rfl
  unfold State.fillingCurrent
  rw [rings_raise]
  simp only [berth]

/-- The row of a quiet timer that is due, in a state in which nothing else is (R38). -/
theorem exec_quietTimerExpiry {s : State} {r : RingId} (hq : s.quietDue r = true) (hd : s.nothingDue) :
    exec (.quietTimerExpiry r) s = .next (s.settleReleases (s.expireQuiet r)).drainLink := by
  have due : s.expireQuietIfDue r = s.expireQuiet r := if_pos hq
  have row : exec (.quietTimerExpiry r) s = .next (s.event (State.expireQuietIfDue r)) := rfl
  rw [row, event_nothingDue s _ hd, due]

/-- An event that touches neither the link nor what opens acceptance ends at its effect (R122). -/
theorem drainLink_settle_of_frame {s t : State} (hd : s.nothingDue) (hl : t.link = s.link) (hc : t.control = s.control)
    (hp : t.port = s.port) (hh : t.holds = s.holds) : (s.settleReleases t).drainLink = t := by
  rw [settleReleases_none s t hh]
  refine drainLink_settled t ?_
  rw [State.linkSettled, State.accepts, State.passThroughFree, State.releasedWaits, hl, hc, hp, hh]
  exact hd.1

/-- Settles O55. -/
theorem quietExpiryReportsOnce : Obligations.QuietExpiryReportsOnce := by
  intro s r hq hd
  constructor
  · intro flag
    have stopped : s.expireQuiet r = s.modTracking r fun t => { t with quietTimer := none } := if_pos flag
    rw [exec_quietTimerExpiry hq hd, stopped]
    exact congrArg _ (drainLink_settle_of_frame hd rfl rfl rfl rfl)
  · intro flag reported
    have whole : s.expireQuiet r = if s.rings[r].profile.abandonOnQuiet then reported.abandonCurrent r else reported := by
      unfold State.expireQuiet
      dsimp only
      rw [if_neg (by rw [flag]; exact Bool.false_ne_true), raise_modTracking, modTracking_modTracking]
    have current : reported.fillingCurrent r = s.fillingCurrent r := by
      have same : SameBerths s.rings[r]
          { s.rings[r] with tracking := { s.rings[r].tracking with quietTimer := none, quietFlag := true } } :=
        ⟨rfl, rfl, rfl, rfl⟩
      rw [← fillingCurrent_modRing (f := fun g => { g with tracking := { g.tracking with quietTimer := none, quietFlag := true } })
        same]
      exact fillingCurrent_raise _ _ r
    refine ⟨fun spared => ?_, fun b abandons filling => ?_⟩
    · have kept : s.expireQuiet r = reported := by
        rw [whole]
        rcases spared with off | none
        · rw [off]
          rfl
        · rw [State.abandonCurrent, current, none]
          exact ite_self _
      rw [exec_quietTimerExpiry hq hd, kept, drainLink_settle_of_frame hd]
      · exact link_raise _ _
      · exact control_raise _ _
      · exact port_raise _ _
      · exact holds_raise _ _
    · rw [exec_quietTimerExpiry hq hd, whole, abandons, State.abandonCurrent, current, filling]
      rfl

end Sys2Proof.Machine
end

-- ==== Sequence break and lead error ====
section
/-! PROOFS. START_WRITE in LOCKED at the position with another sequence than the expected one, or without a good lead (R24, R25,
R28). -/

namespace Sys2Proof.Machine

open Sys2Proof Sys2Proof.Config

/-! ## The berth of a start -/

theorem berth_reclaim (s : State) (r : RingId) (b : Nat) (writer : Initiator) (hp : s.poolIndex r b < 2048) :
    (s.reclaim r b writer).ringBerth r b = Berth.free (s.ringBerth r b).generation := by
  obtain ⟨c, ended, -⟩ := endHolds_spec (s.modRing r (RingRecord.lap (s.ringBerth r b).pendingSet)) true
    fun h => h.berth == s.poolIndex r b
  have index : (s.reclaim r b writer).poolIndex r b = s.poolIndex r b := by
    rw [poolIndex_congr (rings_reclaim s r b writer), State.poolIndex, ring_modRing_same]
    rfl
  rw [State.ringBerth, index]
  unfold State.reclaim
  dsimp only
  rw [berth_modBerth_same _ _ _ hp, berth_count, berth_raise, ended]
  split <;> rfl

/-- The judgment of a start that is made is made on a FREE berth of the old generation (R22, R57). -/
theorem ringBerth_overrunTaken (s : State) (r : RingId) (b : Nat) (writer : Initiator) (hp : s.poolIndex r b < 2048) :
    ((s.overrunTaken r b writer).ringBerth r b).state = .free ∧
      ((s.overrunTaken r b writer).ringBerth r b).generation = (s.ringBerth r b).generation := by
  unfold State.overrunTaken
  split
  · next free => exact ⟨free, rfl⟩
  · rw [berth_reclaim (s.count r .overruns) r b writer hp]
    exact ⟨rfl, rfl⟩

/-- An abandonment leaves a FREE berth. -/
theorem ringBerth_abandonCurrent (s : State) (r : RingId) (b : Nat) (hf : (s.ringBerth r b).state = .free) :
    (s.abandonCurrent r).ringBerth r b = s.ringBerth r b := by
  rw [State.ringBerth, poolIndex_abandonCurrent]
  exact (spares_abandonCurrent s r).berth _ (fun e => nomatch hf.symm.trans e) fun e => nomatch hf.symm.trans e

/-! ## Sequence break -/

/-- A sequence break counts as an alignment error under LEAD_OR_SEQUENCE alone (R24). -/
theorem breakStart_eq (s : State) (r : RingId) (b : Nat) (l : Lead) (w : WriteTx) (reclaimed : Bool) :
    s.breakStart r b l w reclaimed = ((((((s.modTracking r fun t =>
        { t with errorCount := if s.rings[r].profile.lockRule = .leadOnly then 0 else t.errorCount + 1 }).raise
      { kind := .sequenceBreak, ring := ringField r, berth := berthField b, seq := l.seq
        initiator := initiatorField w.initiator }).count r .sequenceBreaks).claim r ⟨b, l.seq, some l, reclaimed⟩ w).examine r
      ⟨b, l.seq, l.mark, w.initiator⟩).loseLockAtThird r) := by
  have counted : Tracking.breakError s.rings[r].profile.lockRule = fun t =>
      { t with errorCount := if s.rings[r].profile.lockRule = .leadOnly then 0 else t.errorCount + 1 } := by
    funext t
    cases s.rings[r].profile.lockRule <;> rfl
  rw [State.breakStart, counted]

/-! ## Lead error -/

theorem leadErrorStart_eq {s : State} {r : RingId} {b : Nat} {w : WriteTx} {reclaimed : Bool} {x : Seq}
    (h : s.rings[r].tracking.expected = some x) : s.leadErrorStart r b w reclaimed =
      (((((s.modTracking r Tracking.alignmentError).count r .leadErrors).claim r ⟨b, x, none, reclaimed⟩ w).examine r
        ⟨b, x, false, w.initiator⟩).loseLockAtThird r) := by
  rw [State.leadErrorStart, h, Option.getD_some]

theorem inner_groupTest (s : State) (r : RingId) : Inner r s (s.groupTest r) := by
  obtain ⟨l, -, tested⟩ := publication_groupTest s r
  exact tested.inner

/-- The damage of a FILLING berth reports it, and leaves the blocks but for berths, places, counters and an occupancy (R40). -/
theorem inner_damage (s : State) (r : RingId) (i : Nat) (cause : DamageCause) (hf : (s.ringBerth r i).state = .filling)
    (hd : (s.ringBerth r i).damage = none) :
    Inner r { s with report := (s.raise (damagedRecord r i cause (s.ringBerth r i))).report } (s.damage r i cause) := by
  rw [damage_eq s r i cause hf, hd, Option.getD_none]
  exact ((inner_markDamaged s r i cause).trans (inner_damageOnly s r i cause)).trans (inner_groupTest _ r)

/-- What the claim of a start of bad lead leaves: the berth is DAMAGED in its expected sequence, and the group completion test
has been made (R25, R42). -/
structure LeadErrs (r : RingId) (b : Nat) (x : Seq) (w : WriteTx) (j u : State) (claimed : Berth) : Prop where
  berth : u.berth (j.poolIndex r b) = j.rings[r].published .damaged claimed
  tracking : u.rings[r].tracking = { j.rings[r].tracking with
    current := some b, position := some ((b + 1) % j.rings[r].profile.berthCount), expected := some (x + 1)
    quietTimer := j.quietTimerAfter r }
  port : u.port = { j.port with
    passThrough := j.port.passThrough ++ [writeEntry w (some ⟨r, j.poolIndex r b, (j.ringBerth r b).generation + 1⟩)] }
  counter : u.counter r .leadErrors = j.counter r .leadErrors
  report : u.report = (j.raise (damagedRecord r b .leadError claimed)).report

/-- A berth claimed by a start of bad lead, as its damage leaves it but for its pending set (R25, R42). -/
def leadErrorBerth (x : Seq) (w : WriteTx) (generation : BitVec 8) : Berth :=
  { Berth.free generation with
    state := .damaged, seq := some x, claimant := some w.initiator, fillCursor := w.length, outstanding := 1
    damage := some .leadError }

theorem leadErrs_claim (s : State) (r : RingId) (b : Nat) (x : Seq) (reclaimed : Bool) (w : WriteTx)
    (hp : s.poolIndex r b < 2048) :
    let j := s.abandonCurrent r
    LeadErrs r b x w j (s.claim r ⟨b, x, none, reclaimed⟩ w) (leadErrorBerth x w ((j.ringBerth r b).generation + 1)) := by
  intro j
  have taken := claimTaken_spec j r ⟨b, x, none, reclaimed⟩ w (by rwa [poolIndex_abandonCurrent])
  have whole : s.claim r ⟨b, x, none, reclaimed⟩ w =
      ((j.claimTaken r ⟨b, x, none, reclaimed⟩ w).damage r b .leadError).groupTest r := claim_eq s r _ w
  rw [whole]
  generalize j.claimTaken r ⟨b, x, none, reclaimed⟩ w = v at taken
  have index : v.poolIndex r b = j.poolIndex r b := by
    rw [State.poolIndex, taken.ring]
    rfl
  have started : v.ringBerth r b =
      { leadErrorBerth x w ((j.ringBerth r b).generation + 1) with state := .filling, damage := none } := by
    rw [State.ringBerth, index, taken.berth]
    simp only [Berth.take, Berth.claimed, leadErrorBerth, Berth.free, Option.map_none, Nat.zero_add]
  have filling : (v.ringBerth r b).state = .filling := by rw [started]
  have unmarked : (v.ringBerth r b).damage = none := by rw [started]
  have damages := damages_damage v r b .leadError filling
  rw [unmarked, Option.getD_none] at damages
  have tested := publishes_groupTest (v.damage r b .leadError) r
  have inner := (inner_damage v r b .leadError filling unmarked).trans (inner_groupTest _ r)
  generalize (v.damage r b .leadError).groupTest r = u at inner tested
  generalize v.damage r b .leadError = d at damages tested
  obtain ⟨n, ring⟩ := inner.ring
  obtain ⟨rings, pool, holds, counters, frame⟩ := inner.frame
  obtain ⟨rings', pool', port', counters', frame'⟩ := taken.frame
  have here : d.berth (j.poolIndex r b) =
      j.rings[r].published .damaged (leadErrorBerth x w ((j.ringBerth r b).generation + 1)) := by
    rw [← index, damages.damaged, started, taken.ring]
    rfl
  refine ⟨?_, ?_, ?_, ?_, ?_⟩
  · rw [tested.berth _ fun staged => ?_, here]
    exact state_published_ne (x := .damaged) (y := .staged) _ _ nofun nofun ((congrArg Berth.state here).symm.trans staged)
  · rw [ring, taken.ring]
    rfl
  · rw [frame, taken.port]
  · have counted : v.counter r .leadErrors = j.counter r .leadErrors := by
      rw [counter_congr taken.counters]
      split
      · rfl
      · exact counter_modCounters_kept j r r _ _ fun k => k.get_raiseTo_other _ nofun
    calc u.counter r .leadErrors = d.counter r .leadErrors := tested.counter r .leadErrors nofun
      _ = (v.count r .berthsDamaged).counter r .leadErrors := damages.counter r .leadErrors nofun
      _ = v.counter r .leadErrors := counter_count_other v r r nofun
      _ = j.counter r .leadErrors := counted
  · rw [frame, started]
    exact report_raise_congr _ (by rw [frame']) (by rw [frame']) (by rw [frame'])

/-- Settles O19. -/
theorem breakAndLeadErrorInLocked : Obligations.BreakAndLeadErrorInLocked := by
  intro s w r b ht ha hp hpos ho reclaimed base thirdLoses
  have index : base.poolIndex r b = s.poolIndex r b := poolIndex_overrunTaken s r b _ b
  have third (v : State) : thirdLoses v = v.loseLockAtThird r := rfl
  constructor
  · intro l hl hexp counted judged
    have rings : judged.rings = counted.rings := by
      rw [rings_count, rings_raise]
    have small : judged.poolIndex r b < 2048 := by
      rwa [poolIndex_congr rings, poolIndex_modTracking, index]
    obtain ⟨u, claimed, whole⟩ := claim_spec judged r b l reclaimed w small
    refine ⟨u, claimed, ?_⟩
    rw [exec_start ht, start_locked ha, startInLocked_break hl hpos hexp, overrun_taken ho, breakStart_eq,
      profile_overrunTaken, whole, third]
  · intro x hl hexp judged claimed
    let counted := (base.modTracking r Tracking.alignmentError).count r .leadErrors
    have expected : base.rings[r].tracking.expected = some x := by
      rw [tracking_overrunTaken, hexp]
    have counted_index : counted.poolIndex r b = s.poolIndex r b := (poolIndex_modTracking base r _ b).trans index
    have profile : judged.rings[r].profile = s.rings[r].profile :=
      (profile_of_layout (layout_abandonCurrent counted r r)).trans
        ((profile_modTracking base r _).trans (profile_overrunTaken s r b _))
    have judged_index : judged.poolIndex r b = s.poolIndex r b := (poolIndex_abandonCurrent counted r r b).trans counted_index
    obtain ⟨free, generation⟩ := ringBerth_overrunTaken s r b w.initiator hp
    have berth : counted.ringBerth r b = base.ringBerth r b := by
      rw [State.ringBerth, counted_index, ← index]
      rfl
    have old : (judged.ringBerth r b).generation = (s.ringBerth r b).generation := by
      rw [show judged.ringBerth r b = counted.ringBerth r b from
        ringBerth_abandonCurrent counted r b (by rw [berth]; exact free), berth]
      exact generation
    have errs : LeadErrs r b x w judged (counted.claim r ⟨b, x, none, reclaimed⟩ w)
        (leadErrorBerth x w ((judged.ringBerth r b).generation + 1)) :=
      leadErrs_claim counted r b x reclaimed w (by rwa [counted_index])
    rw [old] at errs
    refine ⟨counted.claim r ⟨b, x, none, reclaimed⟩ w, ?_, ?_, ?_, errs.counter, errs.report, ?_⟩
    · rw [← judged_index]
      exact errs.berth
    · rw [errs.tracking, profile]
    · rw [errs.port, judged_index, old]
    · rw [exec_start ht, start_locked ha, startInLocked_leadError hl hpos, overrun_taken ho, leadErrorStart_eq expected, third]

end Sys2Proof.Machine
end

-- ==== Damage in whatever state ====
section
/-! PROOFS. What a damage leaves of a berth in any state but DAMAGED (R40), and the continuation that damages with FILL_ORDER
(R45). -/

namespace Sys2Proof.Machine

open Sys2Proof Sys2Proof.Config

/-! ## The verify queue is no concern of a pending set or a release -/

theorem modBerth_modVerify (s : State) (f : VerifyEngine → VerifyEngine) (p : Nat) (g : Berth → Berth) :
    (s.modVerify f).modBerth p g = (s.modBerth p g).modVerify f := by
  unfold State.modBerth
  split
  · rfl
  · rfl

theorem formPending_modVerify (s : State) (f : VerifyEngine → VerifyEngine) (r : RingId) (i : Nat) :
    (s.modVerify f).formPending r i = (s.formPending r i).modVerify f := by
  have seq : (s.modVerify f).ringBerth r i = s.ringBerth r i := rfl
  have index : (s.modVerify f).poolIndex r i = s.poolIndex r i := rfl
  unfold State.formPending State.freeBerth
  dsimp only
  rw [seq, index, modBerth_modVerify, modBerth_modVerify, apply_ite (State.modVerify f)]
  rfl

theorem releaseHolds_modVerify (s : State) (f : VerifyEngine → VerifyEngine) (p : Nat) (o : ReadOutcome) :
    (s.modVerify f).releaseHolds p o = (s.releaseHolds p o).modVerify f := by
  have measured : (s.holds.filter fun h => h.waiting && h.berth == p).foldl (fun s h => s.measureHold h) (s.modVerify f) =
      ((s.holds.filter fun h => h.waiting && h.berth == p).foldl (fun s h => s.measureHold h) s).modVerify f :=
    List.foldl_hom (State.modVerify f) fun _ _ => rfl
  exact congrArg (State.modHolds _) measured

/-! ## The steps of a damage -/

/-- The verify queue once a berth that was in this state is damaged: a CHECKING berth's job is taken out (step 3 of R40). -/
def VerifyEngine.afterDamage (x : BerthState) (p : Nat) (e : VerifyEngine) : VerifyEngine :=
  if x = .checking then e.remove p else e

theorem damage_of_damaged {s : State} {r : RingId} {i : Nat} (cause : DamageCause) (h : (s.ringBerth r i).state = .damaged) :
    s.damage r i cause = s := if_pos h

/-- A damage of a berth that is not DAMAGED: the steps that a FILLING berth takes, the job's leave, and the group test. -/
theorem damage_of_undamaged {s : State} {r : RingId} {i : Nat} (cause : DamageCause) (h : (s.ringBerth r i).state ≠ .damaged) :
    s.damage r i cause = ((s.damageOnly r i ((s.ringBerth r i).damage.getD cause)).modVerify
      (VerifyEngine.afterDamage (s.ringBerth r i).state (s.poolIndex r i))).groupTest r := by
  have commutes (f : VerifyEngine → VerifyEngine) (c : DamageCause) : (s.damageOnly r i c).modVerify f =
      (((s.markDamaged r i c).modVerify f).formPending r i).releaseHolds (s.poolIndex r i) (readOutcome s.rings[r] .damaged) := by
    rw [formPending_modVerify, releaseHolds_modVerify]
    rfl
  rw [commutes]
  unfold State.damage
  dsimp only
  rw [if_neg h]
  by_cases checking : (s.ringBerth r i).state = .checking
  · have leaves : VerifyEngine.afterDamage (s.ringBerth r i).state (s.poolIndex r i) = VerifyEngine.remove (s.poolIndex r i) :=
      funext fun _ => if_pos checking
    rw [if_pos checking, leaves]
    rfl
  · have stays : VerifyEngine.afterDamage (s.ringBerth r i).state (s.poolIndex r i) = id := funext fun _ => if_neg checking
    rw [if_neg checking, stays]
    rfl

/-- What a damage of a berth that is not DAMAGED leaves (R40): the entries on it are released with its outcome, and beside
them only entries on berths that the group completion test publishes. -/
structure TakesDamage (r : RingId) (i : Nat) (cause : DamageCause) (s t : State) : Prop where
  inner : Inner r
    { s with
      report := (s.raise (damagedRecord r i cause (s.ringBerth r i))).report
      verify := s.verify.afterDamage (s.ringBerth r i).state (s.poolIndex r i) } t
  berth : t.ringBerth r i = s.rings[r].published .damaged { s.ringBerth r i with damage := some cause }
  counter : ∀ (q : RingId) (c : Counter), c ≠ .peakHoldTime → t.counter q c = (s.count r .berthsDamaged).counter q c
  holds : ∃ m : Nat → Bool, m (s.poolIndex r i) = false ∧ t.holds = s.holds.map fun h =>
    (h.releasedOn (fun p => p == s.poolIndex r i) s.rings[r].damagedOutcome).releasedOn m .okay

theorem Inner.modVerify {r : RingId} {s t : State} (h : Inner r s t) (f : VerifyEngine → VerifyEngine) :
    Inner r (s.modVerify f) (t.modVerify f) := by
  obtain ⟨rings, pool, holds, counters, frame⟩ := h.frame
  exact ⟨h.ring, h.rings, rings, pool, holds, counters, by rw [frame]; rfl⟩

theorem takesDamage_damage {s : State} {r : RingId} {i : Nat} (cause : DamageCause) (hd : (s.ringBerth r i).state ≠ .damaged)
    (hp : s.poolIndex r i < 2048) : TakesDamage r i ((s.ringBerth r i).damage.getD cause) s (s.damage r i cause) := by
  rw [damage_of_undamaged cause hd]
  generalize (s.ringBerth r i).damage.getD cause = named
  have only := ((inner_markDamaged s r i named).trans (inner_damageOnly s r i named)).modVerify
    (VerifyEngine.afterDamage (s.ringBerth r i).state (s.poolIndex r i))
  have here := berth_damageOnly s r i named hp
  have places := holds_damageOnly s r i named
  have counted (q : RingId) (c : Counter) (hc : c ≠ .peakHoldTime) :
      (s.damageOnly r i named).counter q c = (s.count r .berthsDamaged).counter q c :=
    ((publishes_damageOnly s r i named).counter q c hc).trans (counter_congr (counters_markDamaged s r i named) q c)
  generalize s.damageOnly r i named = d at only here places counted
  generalize left : d.modVerify (VerifyEngine.afterDamage (s.ringBerth r i).state (s.poolIndex r i)) = v at only
  have berths (p : Nat) : v.berth p = d.berth p := by
    rw [← left]
    rfl
  obtain ⟨l, -, tested⟩ := publication_groupTest v r
  have spared : v.stagedAmong r l (s.poolIndex r i) = false := Bool.eq_false_iff.mpr fun among => by
    have staged := (stagedAmong_iff.mp among).1
    rw [berths, here] at staged
    exact state_published_ne (x := .damaged) (y := .staged) _ _ nofun nofun staged
  have whole := only.trans tested.inner
  refine ⟨whole, ?_, fun q c hc => ?_, _, spared, ?_⟩
  · rw [State.ringBerth, whole.poolIndex]
    exact (tested.kept _ spared).trans ((berths _).trans here)
  · have same : v.counter q c = d.counter q c := by
      rw [← left]
      rfl
    rw [(publishes_groupTest v r).counter q c hc, same, counted q c hc]
  · have same : v.holds = d.holds := by
      rw [← left]
      rfl
    rw [tested.holds, same, places, List.map_map]
    rfl

/-- A place that still waits after a release is unchanged, and lies on no berth that was released. -/
theorem releasedOn_waiting {m : Nat → Bool} {o : ReadOutcome} {h : HoldPlace} (waits : (h.releasedOn m o).waiting = true) :
    h.releasedOn m o = h ∧ m h.berth = false := by
  unfold HoldPlace.releasedOn at waits ⊢
  split at waits
  · exact nomatch waits
  · next spared =>
    rw [waits, Bool.true_and, Bool.not_eq_true] at spared
    exact ⟨if_neg (by rw [spared, Bool.and_false]; exact Bool.false_ne_true), spared⟩

section

variable {r : RingId} {i : Nat} {cause : DamageCause} {s t : State} (h : TakesDamage r i cause s t)

include h

theorem TakesDamage.report : t.report = (s.raise (damagedRecord r i cause (s.ringBerth r i))).report := by
  obtain ⟨rings, pool, holds, counters, frame⟩ := h.inner.frame
  rw [frame]

theorem TakesDamage.verify : t.verify = s.verify.afterDamage (s.ringBerth r i).state (s.poolIndex r i) := by
  obtain ⟨rings, pool, holds, counters, frame⟩ := h.inner.frame
  rw [frame]

theorem TakesDamage.port : t.port = s.port := by
  obtain ⟨rings, pool, holds, counters, frame⟩ := h.inner.frame
  rw [frame]

theorem TakesDamage.responses : t.responses = s.responses := by
  obtain ⟨rings, pool, holds, counters, frame⟩ := h.inner.frame
  rw [frame]

/-- An entry on the damaged berth is released with its outcome (R99). -/
theorem TakesDamage.released {x : HoldPlace} (hx : x ∈ s.holds) (waits : x.waiting = true)
    (here : x.berth = s.poolIndex r i) : { x with released := some s.rings[r].damagedOutcome } ∈ t.holds := by
  obtain ⟨m, -, places⟩ := h.holds
  rw [places, List.mem_map]
  refine ⟨x, hx, ?_⟩
  rw [HoldPlace.releasedOn.eq_def _ _ x, waits, here, beq_self_eq_true]
  rfl

/-- No entry waits on the damaged berth any more. -/
theorem TakesDamage.nothingWaits {y : HoldPlace} (hy : y ∈ t.holds) (waits : y.waiting = true) :
    y.berth ≠ s.poolIndex r i := by
  obtain ⟨m, -, places⟩ := h.holds
  rw [places, List.mem_map] at hy
  obtain ⟨x, -, rfl⟩ := hy
  obtain ⟨last, -⟩ := releasedOn_waiting waits
  rw [last] at waits ⊢
  obtain ⟨same, elsewhere⟩ := releasedOn_waiting waits
  rw [same]
  exact beq_eq_false_iff_ne.mp elsewhere

end

/-! ## The continuation that does not begin at the fill cursor -/

theorem continuation_fillOrder {s : State} {r : RingId} {b offset : Nat} (w : WriteTx) (ha : s.rings[r].tracking.align ≠ .hunt)
    (hc : s.rings[r].tracking.current = some b) (hf : (s.ringBerth r b).state = .filling)
    (ho : offset ≠ (s.ringBerth r b).fillCursor) :
    s.continuation r b offset w = (s.pushPass (writeEntry w none)).damage r b .fillOrder := by
  rw [State.continuation, if_neg ha, if_pos hc, State.continueCurrent, hf]
  exact if_neg ho

/-- Settles O27: a damage in any state takes the steps of one in FILLING, beside the job's leave from the queue. -/
theorem damageTakesItsSteps : Obligations.DamageTakesItsSteps := by
  intro s r b
  constructor
  · intro cause g old kept t
    refine ⟨damage_of_damaged cause, fun hd hp => ?_⟩
    have taken : TakesDamage r b kept s t := takesDamage_damage cause hd hp
    obtain ⟨n, ring⟩ := taken.inner.ring
    refine ⟨taken.berth, by rw [ring], taken.report, taken.counter r .berthsDamaged nofun, fun checking => ?_,
      fun other => taken.verify.trans (if_neg other), fun h hh waits here => taken.released hh waits here,
      fun h hh waits => taken.nothingWaits hh waits, taken.port, taken.responses⟩
    exact congrArg VerifyEngine.queue (taken.verify.trans (if_pos checking))
  · intro w offset ht h0 ho ha hc hf
    rw [exec_producer_write _ w s r b offset rfl ht, if_neg h0, continuation_fillOrder w ha hc hf ho]

end Sys2Proof.Machine
end

-- ==== Tracked writes that fault ====
section
/-! PROOFS. Tracked completions with MEMFAULT: the berth of their generation, and the ring under strict (R51, R53, R131, R140). -/

namespace Sys2Proof.Machine

open Sys2Proof Sys2Proof.Config

/-! ## The row -/

/-- What a completion with MEMFAULT does before the berth: the entry is freed, its writer answered MEMFAULT, and MEMORY_FAULT
raised (R126, R130, R131). -/
def State.faulted (s : State) (e : PassEntry) (rest : List Request) : State :=
  State.raise (e.faultRecord (s.classify e.address))
    { s with
      port := { s.port with passThrough := s.port.passThrough.erase e, inFlight := rest }
      responses := s.responses ++ [⟨e.initiator, e.tag, .memfault, []⟩] }

/-- The oldest request is a tracked write's: its entry completes with a fault and its berth is told (R51, R130). -/
theorem completeTrackedWrite_fault {s : State} {q : Request} {rest : List Request} {i : Initiator} {g : Tag} {e : PassEntry}
    {x : TrackTag} (hq : s.port.inFlight = q :: rest) (ho : q.origin = .passThrough i g)
    (he : s.port.entry? i g = some e) (hx : e.tracked? = some x) :
    s.completeTrackedWrite true = (s.faulted e rest).completeTracked x e.initiator true := by
  have oldest : s.oldestEntry = some e := by
    simp [State.oldestEntry, hq, ho, he]
  have retired : s.retire = { s with port := { s.port with inFlight := rest } } := by
    rw [State.retire, State.modPort, hq]
    rfl
  have faulted : s.retire.completeEntry e .memfault = s.faulted e rest := by
    rw [retired]
    rfl
  rw [State.completeTrackedWrite, oldest]
  dsimp only
  rw [hx]
  dsimp only
  rw [if_pos rfl, faulted]

/-- A completion with MEMFAULT of the berth's generation reaches the berth (R51, R53). -/
theorem completeTracked_fault {s : State} {x : TrackTag} (writer : Initiator) {b : Nat} (hb : x.berth = s.poolIndex x.ring b) :
    s.completeTracked x writer true =
      if (s.berth x.berth).generation = x.generation then s.trackedFault x.ring b writer else s := by
  have index : x.berth - s.rings[x.ring].poolBase = b := by
    rw [hb]
    exact Nat.add_sub_cancel_left _ _
  rw [State.completeTracked, index]
  rfl

/-! ## The berth of the generation -/

/-- A faulted write of a berth in such a state damages it (R53). -/
def BerthState.filled (x : BerthState) : Prop := x = .filling ∨ x = .settling

theorem BerthState.filled.ne {x : BerthState} (h : x.filled) : x ≠ .damaged ∧ x ≠ .free := by
  rcases h with rfl | rfl <;> exact ⟨nofun, nofun⟩

/-- What a completion with MEMFAULT makes of the berth of its generation before the ring is held, by the berth's state: a
FILLING or SETTLING berth is damaged, a DAMAGED one has one write less outstanding, a FREE one stays (R51, R53). -/
def State.faultApplied (s : State) (r : RingId) (b : Nat) (t : State) : Prop :=
  let lowered := s.lowerOutstanding (s.poolIndex r b)
  (s.ringBerth r b).state.filled ∧ t = lowered.damage r b .memoryFault ∨
    (s.ringBerth r b).state = .damaged ∧ t = lowered ∨ (s.ringBerth r b).state = .free ∧ t = s

theorem trackedFault_applied {s t : State} {r : RingId} {b : Nat} (writer : Initiator) (h : s.faultApplied r b t) :
    s.trackedFault r b writer = t.faultHold r .memoryFault b (initiatorField writer) := by
  rcases h with ⟨filling | settling, rfl⟩ | ⟨damaged, rfl⟩ | ⟨free, rfl⟩
  · rw [State.trackedFault, filling]
  · rw [State.trackedFault, settling]
  · rw [State.trackedFault, damaged]
  · rw [State.trackedFault, free]

/-- A berth whose write has completed has one write less outstanding. -/
theorem ringBerth_lowerOutstanding {s : State} {r : RingId} {b : Nat} (hp : s.poolIndex r b < 2048) :
    (s.lowerOutstanding (s.poolIndex r b)).ringBerth r b =
      { s.ringBerth r b with outstanding := (s.ringBerth r b).outstanding - 1 } := by
  rw [State.ringBerth, poolIndex_congr (rings_lowerOutstanding s _)]
  exact berth_modBerth_same s _ _ hp

/-- The damage of a berth whose write has faulted (R53). -/
theorem takesDamage_fault {s : State} {r : RingId} {b : Nat} (hp : s.poolIndex r b < 2048)
    (hd : (s.ringBerth r b).state ≠ .damaged) :
    TakesDamage r b ((s.ringBerth r b).damage.getD .memoryFault) (s.lowerOutstanding (s.poolIndex r b))
      ((s.lowerOutstanding (s.poolIndex r b)).damage r b .memoryFault) := by
  have berth := ringBerth_lowerOutstanding hp
  have taken := takesDamage_damage (s := s.lowerOutstanding (s.poolIndex r b)) (r := r) (i := b) .memoryFault
    (by rw [berth]; exact hd) (by rwa [poolIndex_congr (rings_lowerOutstanding s _)])
  rwa [berth] at taken

/-- Of its ring such a completion changes at most the occupancy. -/
theorem ring_faultApplied {s t : State} {r : RingId} {b : Nat} (hp : s.poolIndex r b < 2048) (h : s.faultApplied r b t) :
    ∃ n, t.rings[r] = { s.rings[r] with occupancy := n } := by
  have lowered : (s.lowerOutstanding (s.poolIndex r b)).rings = s.rings := rings_lowerOutstanding s _
  rcases h with ⟨filled, rfl⟩ | ⟨-, rfl⟩ | ⟨-, rfl⟩
  · obtain ⟨n, ring⟩ := (takesDamage_fault hp filled.ne.1).inner.ring
    exact ⟨n, by rw [ring]; exact congrArg (fun v => { v[r] with occupancy := n }) lowered⟩
  · exact ⟨s.rings[r].occupancy, by rw [lowered]⟩
  · exact ⟨t.rings[r].occupancy, rfl⟩

/-- A berth damaged by a faulted write, its record and the rest (R40, R53). -/
theorem faultApplied_filled {s t : State} {r : RingId} {b : Nat} (hp : s.poolIndex r b < 2048) (h : s.faultApplied r b t)
    (filled : (s.ringBerth r b).state.filled) (fresh : (s.ringBerth r b).damage = none) :
    t.ringBerth r b = s.rings[r].published .damaged
        { s.ringBerth r b with outstanding := (s.ringBerth r b).outstanding - 1, damage := some .memoryFault } ∧
      t.report = (s.raise (damagedRecord r b .memoryFault (s.ringBerth r b))).report ∧ t.port = s.port := by
  have damaged : t = (s.lowerOutstanding (s.poolIndex r b)).damage r b .memoryFault := by
    rcases h with ⟨-, damaged⟩ | ⟨other, -⟩ | ⟨other, -⟩
    · exact damaged
    · exact absurd other filled.ne.1
    · exact absurd other filled.ne.2
  have taken := takesDamage_fault hp filled.ne.1
  rw [← damaged, fresh] at taken
  have record : damagedRecord r b .memoryFault ((s.lowerOutstanding (s.poolIndex r b)).ringBerth r b) =
      damagedRecord r b .memoryFault (s.ringBerth r b) := by
    rw [ringBerth_lowerOutstanding hp]
    rfl
  refine ⟨?_, ?_, taken.port.trans (port_lowerOutstanding s _)⟩
  · rw [taken.berth, ringBerth_lowerOutstanding hp, rings_lowerOutstanding]
    rfl
  · rw [taken.report, Option.getD_none, record]
    exact report_raise_congr _ (by rw [control_lowerOutstanding]) (report_lowerOutstanding s _)
      (by rw [timeBase_lowerOutstanding])

/-! ## The ring -/

/-- A ring that is not strict, or not ACTIVE, enters no FAULT_HELD (R139). -/
theorem faultHold_spared {s : State} {r : RingId} (cause : ReportKind) (index : Nat) (initiator : Byte)
    (h : s.rings[r].profile.strict = false ∨ s.rings[r].opState ≠ .active) : s.faultHold r cause index initiator = s := by
  rcases h with lax | inactive
  · exact faultHold_none s r cause index initiator lax
  · have spared : (s.rings[r].profile.strict && decide (s.rings[r].opState = .active)) = false := by
      rw [decide_eq_false inactive, Bool.and_false]
    exact if_neg (by rw [spared]; exact Bool.false_ne_true)

/-- Settles O47: the berth's change and the ring's hold apart: the change leaves of its ring all but the occupancy. -/
theorem trackedFaultDamagesTheBerth : Obligations.TrackedFaultDamagesTheBerth := by
  intro s q rest i g e x b hq ho he hx hd hb hp old ring answered lowered filled
  have row : exec (.trackedWriteCompletion true) s =
      .next (s.settleReleases (answered.completeTracked x e.initiator true)).drainLink :=
    (congrArg _ (event_nothingDue s _ hd)).trans
      (congrArg (fun u => Host.Outcome.next (s.settleReleases u).drainLink) (completeTrackedWrite_fault hq ho he hx))
  have rings : answered.rings = s.rings := rings_raise _ _
  have berth (p : Nat) : answered.berth p = s.berth p := berth_raise _ _ p
  have index : answered.poolIndex x.ring b = x.berth := (poolIndex_congr rings x.ring b).trans hb.symm
  have here : answered.ringBerth x.ring b = old := by
    rw [State.ringBerth, index, berth]
  rw [row, completeTracked_fault e.initiator index.symm, berth]
  refine ⟨fun stale => ?_, fun applied hg outcome => ?_⟩
  · rw [if_neg stale, settleReleases_none s answered (holds_raise _ _)]
  have applies : answered.faultApplied x.ring b applied := by
    rw [State.faultApplied, here, index]
    exact outcome
  have small : answered.poolIndex x.ring b < 2048 := by rwa [index]
  obtain ⟨n, applied_ring⟩ := ring_faultApplied small applies
  rw [rings] at applied_ring
  rw [if_pos hg, trackedFault_applied e.initiator applies]
  refine ⟨fun spared => ?_, fun strict active sound => ⟨_, rfl, ?_⟩, fun isFilled fresh => ?_⟩
  · rw [faultHold_spared _ _ _ (by rw [applied_ring]; exact spared)]
  · refine heldTo_faultHold applied x.ring .memoryFault b _ (by rw [applied_ring]; exact strict)
      (by rw [applied_ring]; exact active) ?_
    rw [State.ringSound, applied_ring]
    exact sound
  · have state : (answered.ringBerth x.ring b).state.filled := here ▸ isFilled
    obtain ⟨damaged, report, port⟩ := faultApplied_filled small applies state (here ▸ fresh)
    have place : applied.poolIndex x.ring b = x.berth := by
      rw [State.poolIndex, applied_ring]
      exact hb.symm
    rw [State.ringBerth, place, here, rings] at damaged
    rw [here] at report
    exact ⟨damaged, report, by rw [applied_ring], port⟩

end Sys2Proof.Machine
end

-- ==== Reclaim ====
section
/-! PROOFS. RECLAIM takes a live berth from its old record (R57, R119). -/

namespace Sys2Proof.Machine

open Sys2Proof Sys2Proof.Config

/-- The state in which a reclaim has lapped the slots, ended the entries and cancelled the verify job (R57, R88, R103, R119). -/
def State.reclaimEnded (s : State) (r : RingId) (b : Nat) : State :=
  ((s.modRing r (RingRecord.lap (s.ringBerth r b).pendingSet)).endHolds true fun h => h.berth == s.poolIndex r b).modVerify
    fun e => if (s.ringBerth r b).state = .checking then (e.remove (s.poolIndex r b)).activate else e

/-- The BERTH_RECLAIMED record of a berth taken from its old record (R57). -/
def reclaimedRecord (r : RingId) (b : Nat) (writer : Initiator) (old : Berth) : Record :=
  { kind := .berthReclaimed, ring := ringField r, berth := berthField b, seq := seqField old
    initiator := initiatorField writer, extra := old.pendingSet.setWidth 32 }

theorem reclaim_eq (s : State) (r : RingId) (b : Nat) (writer : Initiator) : s.reclaim r b writer =
    (((s.reclaimEnded r b).raise (reclaimedRecord r b writer (s.ringBerth r b))).count r .reclaims).modBerth
      (s.poolIndex r b) Berth.freed := by
  unfold State.reclaim State.reclaimEnded
  dsimp only
  split
  · rfl
  · rfl

theorem reclaimEnded_spec (s : State) (r : RingId) (b : Nat) : ∃ c, s.reclaimEnded r b =
    { s.modRing r (RingRecord.lap (s.ringBerth r b).pendingSet) with
      holds := s.holds.filter fun h => !(h.waiting && h.berth == s.poolIndex r b)
      responses := s.responses ++ notReadyResponses (s.holds.filter fun h => h.waiting && h.berth == s.poolIndex r b)
      verify := if (s.ringBerth r b).state = .checking then (s.verify.remove (s.poolIndex r b)).activate else s.verify
      counters := c } := by
  obtain ⟨c, ended, -⟩ := endHolds_spec (s.modRing r (RingRecord.lap (s.ringBerth r b).pendingSet)) true
    fun h => h.berth == s.poolIndex r b
  exact ⟨c, by rw [State.reclaimEnded, ended]; rfl⟩

theorem counter_reclaimEnded (s : State) (r : RingId) (b : Nat) (q : RingId) {c : Counter} (h : c ≠ .peakHoldTime) :
    (s.reclaimEnded r b).counter q c = s.counter q c :=
  counter_endHolds_other (s.modRing r (RingRecord.lap (s.ringBerth r b).pendingSet)) true
    (fun h => h.berth == s.poolIndex r b) q h

/-- The slots of the mask are lapped, the others keep what they were (R88). -/
theorem roster_lap (mask : BitVec 4) (g : RingRecord) (k : SlotId) :
    (g.lap mask).roster[k] = { g.roster[k] with lapped := g.roster[k].lapped || mask.getLsbD k.val } := by
  rw [RingRecord.lap, mapSlots_get]
  cases mask.getLsbD k.val with
  | true => rw [if_pos rfl, Bool.or_true]
  | false => rw [if_neg Bool.false_ne_true, Bool.or_false]

/-- Settles O21: from the state in which the entries have ended, which `endHolds_spec` tells. -/
theorem reclaimTakesTheBerth : Obligations.ReclaimTakesTheBerth := by
  intro s r b writer hp p old t
  obtain ⟨c, ended⟩ := reclaimEnded_spec s r b
  have whole : t = (((s.reclaimEnded r b).raise (reclaimedRecord r b writer old)).count r .reclaims).modBerth p Berth.freed :=
    reclaim_eq s r b writer
  have ring : t.rings[r] = s.rings[r].lap old.pendingSet :=
    (congrArg (fun v => v[r]) (rings_reclaim s r b writer)).trans (ring_modRing_same s r _)
  have before (q : Nat) : (((s.reclaimEnded r b).raise (reclaimedRecord r b writer old)).count r .reclaims).berth q = s.berth q := by
    rw [berth_count, berth_raise, ended]
    rfl
  refine ⟨?_, fun q other => ?_, fun k => ?_, by rw [ring]; rfl, by rw [ring]; rfl, fun q other => ?_, ?_, ?_, ?_, ?_, ?_, ?_⟩
  · rw [whole, berth_modBerth_same _ _ _ hp, before]
    rfl
  · rw [whole, berth_modBerth_other _ _ _ _ other, before]
  · rw [ring, roster_lap]
  · exact (congrArg (fun v => v[q]) (rings_reclaim s r b writer)).trans (ring_modRing_other s r q _ other)
  · rw [whole, holds_modBerth, holds_count, holds_raise, ended]
  · rw [whole, responses_modBerth, responses_count, responses_raise, ended]
  · rw [whole, verify_modBerth, verify_count, verify_raise, ended]
    rfl
  · rw [whole, report_modBerth, report_count]
    exact report_raise_congr _ (by rw [ended]; rfl) (by rw [ended]; rfl) (by rw [ended]; rfl)
  · rw [whole, counter_congr (counters_modBerth _ p _)]
    refine counter_count_congr r r .reclaims .reclaims ?_
    rw [counter_congr (counters_raise _ _), counter_reclaimEnded s r b r (c := .reclaims) nofun]
  · rw [whole, port_modBerth, port_count, port_raise, ended]
    rfl

end Sys2Proof.Machine
end

-- ==== Settled berths ====
section
/-! PROOFS. What becomes of a settled berth (R52, R111, R118), the publication step (R63, R64), and the slots that a berth
waits for (R86). -/

namespace Sys2Proof.Machine

open Sys2Proof Sys2Proof.Config

/-! ## The verify queue -/

/-- A job added where none waits at the head: it is active at once in an empty queue, and else the last (R111, R112). -/
theorem enqueue_eq (e : VerifyEngine) (r : RingId) (p : Nat) (generation : BitVec 8)
    (h : ∀ j, e.queue.head? = some j → j.phase ≠ .waiting) : e.enqueue r p generation =
      if e.queue = [] then
        { e with queue := [⟨r, p, generation, 1, .reading⟩], cursor := 0, check := crcInit, tail := emptyTail }
      else { e with queue := e.queue ++ [⟨r, p, generation, 0, .waiting⟩] } := by
  cases jobs : e.queue with
  | nil =>
    rw [if_pos rfl, VerifyEngine.enqueue, jobs]
    rfl
  | cons j rest =>
    have active : j.phase ≠ .waiting := h j (by rw [jobs]; rfl)
    rw [if_neg (List.cons_ne_nil j rest), VerifyEngine.enqueue, jobs]
    exact if_neg active

section

variable {s : State} {r : RingId} {b : Nat}

theorem settled_unverified (h : s.rings[r].profile.verify = false) : s.settled r b = s.publicationStep r b :=
  if_pos (by rw [h]; rfl)

theorem settled_enqueued (h : s.rings[r].profile.verify = true) (room : s.verify.queue.length < 8) :
    s.settled r b = (s.modBerth (s.poolIndex r b) fun c => { c with state := .checking }).modVerify
      (VerifyEngine.enqueue r (s.poolIndex r b) (s.ringBerth r b).generation) :=
  (if_neg (by rw [h]; exact Bool.false_ne_true)).trans (if_pos room)

theorem settled_skipped (h : s.rings[r].profile.verify = true) (full : 8 ≤ s.verify.queue.length) :
    s.settled r b = (s.raise { kind := .verifySkipped, ring := ringField r, berth := berthField b
                               seq := seqField (s.ringBerth r b)
                               initiator := claimantField (s.ringBerth r b) }).publicationStep r b :=
  (if_neg (by rw [h]; exact Bool.false_ne_true)).trans (if_neg (Nat.not_lt.mpr full))

/-! ## The publication step -/

theorem publicationStep_staged (h : s.rings[r].opState = .active ∧ s.rings[r].profile.publishMode = .group ∧
      s.rings[r].tracking.group = .locked) : s.publicationStep r b = s.stage r b := by
  obtain ⟨active, grouped, locked⟩ := h
  exact if_pos (by rw [active, grouped, locked]; rfl)

theorem publicationStep_published (h : ¬(s.rings[r].opState = .active ∧ s.rings[r].profile.publishMode = .group ∧
      s.rings[r].tracking.group = .locked)) : s.publicationStep r b = s.publish r b :=
  if_neg (by simpa only [Bool.and_eq_true, decide_eq_true_eq, and_assoc] using h)

/-- A pending set formed empty frees its berth, which lowers the occupancy; no other leaves a mark on a ring (R86, R95). -/
theorem ring_formPending (s : State) (r : RingId) (b : Nat) : (s.formPending r b).rings[r] =
    if s.rings[r].pendingFor (seqField (s.ringBerth r b)) = 0 then
      { s.rings[r] with occupancy := s.rings[r].occupancy - 1 }
    else s.rings[r] := by
  unfold State.formPending
  dsimp only
  split
  · rw [State.freeBerth, State.occupancyDown, ring_modRing_same, rings_modBerth]
  · exact congrArg (fun v => v[r]) (rings_modBerth s _ _)

/-- What a publication leaves, whatever state the berth was in (R64, R86, R99). -/
structure PublishesOne (r : RingId) (b : Nat) (s t : State) : Prop where
  inner : Inner r s t
  berth : t.berth (s.poolIndex r b) = s.rings[r].published .ready (s.ringBerth r b)
  others : ∀ q : Nat, q ≠ s.poolIndex r b → t.berth q = s.berth q
  ring : t.rings[r] = if s.rings[r].pendingFor (seqField (s.ringBerth r b)) = 0 then
    { s.rings[r] with occupancy := s.rings[r].occupancy - 1 } else s.rings[r]
  holds : t.holds = s.holds.map fun h =>
    if h.waiting && h.berth == s.poolIndex r b then { h with released := some .okay } else h

theorem publishesOne_publish (hp : s.poolIndex r b < 2048) : PublishesOne r b s (s.publish r b) := by
  generalize readied : (s.modBerth (s.poolIndex r b) fun c => { c with state := .ready }) = d
  have rings : d.rings = s.rings := by rw [← readied, rings_modBerth]
  have index : d.poolIndex r b = s.poolIndex r b := poolIndex_congr rings r b
  have berth : d.ringBerth r b = { s.ringBerth r b with state := .ready } := by
    rw [State.ringBerth, index, ← readied]
    exact berth_modBerth_same s _ _ hp
  have whole : s.publish r b = (d.formPending r b).releaseHolds (s.poolIndex r b) .okay := by
    rw [← readied]
    rfl
  have inner : Inner r s d := readied ▸ inner_modBerth r s _ _
  have formed := ringBerth_formPending d r b (by rwa [index])
  obtain ⟨counters, released⟩ := releaseHolds_spec (d.formPending r b) (s.poolIndex r b) .okay
  refine ⟨?_, ?_, (publishes_publish s r b).berth, ?_, ?_⟩
  · rw [whole]
    exact (inner.trans (inner_formPending d r b)).trans (inner_releaseHolds r _ _ _)
  · rw [index, berth, rings] at formed
    rw [whole, (publishes_releaseHolds _ _ _).berth _ (Set.notMem_empty _), formed]
    rfl
  · rw [whole, released]
    refine (ring_formPending d r b).trans ?_
    rw [berth, rings]
    rfl
  · rw [whole, released, holds_formPending, ← readied, holds_modBerth]

end

/-! ## The slots that must release a berth -/

theorem getLsbD_singleton : ∀ j k : SlotId, (1#4 <<< j.val).getLsbD k.val = (j == k) := by decide

/-- The bits set along a list of slots are those of its slots that meet the condition. -/
theorem getLsbD_foldl_slots (f : SlotId → Bool) (l : List SlotId) (m : BitVec 4) (k : SlotId) :
    (l.foldl (fun m j => if f j then m ||| (1#4 <<< j.val) else m) m).getLsbD k.val =
      (m.getLsbD k.val || l.any fun j => f j && j == k) := by
  induction l generalizing m with
  | nil => exact (Bool.or_false _).symm
  | cons j l ih =>
    rw [List.foldl_cons, ih, List.any_cons]
    cases f j with
    | true => rw [if_pos rfl, BitVec.getLsbD_or, getLsbD_singleton, Bool.true_and, Bool.or_assoc]
    | false => rw [if_neg Bool.false_ne_true, Bool.false_and, Bool.false_or]

theorem getLsbD_pendingFor (g : RingRecord) (q : Seq) (k : SlotId) :
    (g.pendingFor q).getLsbD k.val = g.roster[k].mustRelease q := by
  have among := getLsbD_foldl_slots (fun j => g.roster[j].mustRelease q) allSlots 0#4 k
  refine among.trans ?_
  rw [BitVec.getLsbD_zero, Bool.false_or, Bool.eq_iff_iff, List.any_eq_true]
  constructor
  · rintro ⟨j, -, meets⟩
    obtain ⟨must, same⟩ := Bool.and_eq_true_iff.mp meets
    rwa [← eq_of_beq same]
  · intro must
    exact ⟨k, mem_allSlots k, by rw [must, beq_self_eq_true]; rfl⟩

/-- A slot must release a berth when it is ATTACHED and no cursor of it passes the sequence (R86). -/
theorem mustRelease_iff (x : Slot) (q : Seq) :
    x.mustRelease q = true ↔ x.state = .attached ∧ ∀ c : Seq, x.cursor = some c → passes c q = false := by
  rw [Slot.mustRelease, Bool.and_eq_true, beq_iff_eq]
  cases x.cursor with
  | none => simp
  | some c => simp

/-- Settles O28: by the branches of `settled` and of the publication step; the pending set bit by bit. -/
theorem settledBerthsAreHandedOn : Obligations.SettledBerthsAreHandedOn := by
  intro s r b hp g p old
  refine ⟨settled_unverified, fun verify room active => ?_, settled_skipped, publicationStep_staged, fun ungrouped => ?_,
    fun q k => ?_⟩
  · rw [settled_enqueued verify room, State.modVerify, verify_modBerth, enqueue_eq _ _ _ _ active]
  · intro t
    have published : PublishesOne r b s t := by
      rw [show t = s.publish r b from publicationStep_published ungrouped]
      exact publishesOne_publish hp
    obtain ⟨rings, pool, holds, counters, frame⟩ := published.inner.frame
    exact ⟨published.berth, published.others, published.ring, published.inner.rings, published.holds,
      by rw [frame], by rw [frame], by rw [frame], by rw [frame]⟩
  · rw [getLsbD_pendingFor, mustRelease_iff]

end Sys2Proof.Machine
end

-- ==== Groups ====
section
/-! PROOFS. Group arithmetic (R66), the group completion test (R72, R73), and the group unit's examination of a start in each
of its states (R65, R67 to R71). -/

namespace Sys2Proof.Machine

open Sys2Proof Sys2Proof.Config

/-! ## Group arithmetic -/

/-- The sequence n places after a base. -/
theorem eq_add_ofNat_iff (base u : Seq) {n : Nat} (hn : n < 65536) : u = base + BitVec.ofNat 16 n ↔ (u - base).toNat = n := by
  rw [← sub_eq_iff_eq_add', ← BitVec.toNat_inj, BitVec.toNat_ofNat, Nat.mod_eq_of_lt hn]

theorem inGroup_iff (size : Nat) (base u : Seq) (h : size ≤ 65536) :
    inGroup size base u = true ↔ ∃ n : Nat, n < size ∧ u = base + BitVec.ofNat 16 n := by
  rw [inGroup, decide_eq_true_eq]
  constructor
  · intro within
    exact ⟨_, within, (eq_add_ofNat_iff base u (u - base).isLt).mpr rfl⟩
  · rintro ⟨n, within, here⟩
    rwa [(eq_add_ofNat_iff base u (by omega)).mp here]

/-- A group is closed when the latest sequence is none of its first G - 1 (R72). -/
theorem groupClosed_iff (size : Nat) (base latest : Seq) : groupClosed size base latest = true ↔
    ∀ n : Nat, n + 1 < size → n < 65536 → latest ≠ base + BitVec.ofNat 16 n := by
  rw [groupClosed, decide_eq_true_eq]
  constructor
  · intro closed n early small here
    rw [(eq_add_ofNat_iff base latest small).mp here] at closed
    omega
  · intro apart
    by_contra early
    exact apart _ (by omega) (latest - base).isLt ((eq_add_ofNat_iff base latest (latest - base).isLt).mpr rfl)

theorem signedDiff_eq (t a : Seq) : signedDiff t a =
    if (t - a).toNat ≤ 32767 then ((t - a).toNat : Int) else ((t - a).toNat : Int) - 65536 := by
  rw [signedDiff, BitVec.toInt_eq_toNat_cond]
  split
  · rw [if_pos (by omega)]
  · rw [if_neg (by omega)]
    rfl

theorem groupPosition_eq_emod (size : Nat) (start t : Seq) (h : 1 ≤ size) :
    (groupPosition size start t : Int) = signedDiff t start % (size : Int) :=
  Int.toNat_of_nonneg (Int.emod_nonneg _ (by omega))

theorem groupPosition_lt (size : Nat) (start t : Seq) (h : 1 ≤ size) : groupPosition size start t < size := by
  have below := Int.emod_lt_of_pos (signedDiff t start) (b := size) (by omega)
  rw [← groupPosition_eq_emod size start t h] at below
  omega

/-- Settles O58: the remainder of a division by G, and the sequences counted from a group's base. -/
theorem groupArithmetic : Obligations.GroupArithmetic := by
  intro t start u size h1 h2
  exact ⟨signedDiff_eq t start, groupPosition_eq_emod size start t h1, groupPosition_lt size start t h1,
    sub_add_cancel t _, inGroup_iff size _ u (by omega)⟩

/-! ## What a group's publication publishes -/

section

variable {s t : State} {r : RingId} {i : Nat}

theorem poolIndex_eq_iff (s : State) (r : RingId) {i j : Nat} : s.poolIndex r i = s.poolIndex r j ↔ i = j :=
  Nat.add_left_cancel_iff

/-- A publication read at one berth of the ring. -/
theorem Publication.ringBerth {m : Nat → Bool} (h : Publication r m s t) (i : Nat) : t.ringBerth r i =
    if m (s.poolIndex r i) then s.rings[r].published .ready (s.ringBerth r i) else s.ringBerth r i := by
  rw [State.ringBerth, h.inner.poolIndex]
  split
  · next among => exact h.ready _ among
  · next other => exact h.kept _ (Bool.eq_false_iff.mpr other)

theorem stagedAmong_poolIndex {l : List Nat} :
    s.stagedAmong r l (s.poolIndex r i) = true ↔ (s.ringBerth r i).state = .staged ∧ i ∈ l := by
  simp only [stagedAmong_iff, poolIndex_eq_iff, exists_eq_right']
  rfl

theorem mem_stagedBases {base : Seq} : base ∈ s.stagedBases r ↔ ∃ j : Nat, j < s.rings[r].profile.berthCount ∧
    (s.ringBerth r j).state = .staged ∧
      groupBase s.rings[r].profile.groupSize (s.rings[r].tracking.groupStart.getD 0) (seqField (s.ringBerth r j)) = base := by
  simp only [State.stagedBases, mem_orderedBases, List.mem_map, Prod.exists, mem_stagedBerths, State.berthIndices,
    List.mem_range]
  constructor
  · rintro ⟨j, q, ⟨hj, staged, rfl⟩, here⟩
    exact ⟨j, hj, staged, here⟩
  · rintro ⟨j, hj, staged, here⟩
    exact ⟨j, _, ⟨hj, staged, rfl⟩, here⟩

/-! ## The group completion test -/

theorem onItsWay_eq_false_iff (x : BerthState) : x.onItsWay = false ↔ x ≠ .filling ∧ x ≠ .settling ∧ x ≠ .checking := by
  cases x <;> decide

/-- A complete group is closed and has no member on its way (R72). -/
theorem groupComplete_iff {base : Seq} : s.groupComplete r base = true ↔
    (∀ n : Nat, n + 1 < s.rings[r].profile.groupSize → n < 65536 →
      s.rings[r].tracking.expected.getD 0 - 1 ≠ base + BitVec.ofNat 16 n) ∧
    ∀ i : Nat, i < s.rings[r].profile.berthCount →
      inGroup s.rings[r].profile.groupSize base (seqField (s.ringBerth r i)) = true →
        (s.ringBerth r i).state ≠ .filling ∧ (s.ringBerth r i).state ≠ .settling ∧ (s.ringBerth r i).state ≠ .checking := by
  rw [State.groupComplete, Bool.and_eq_true, groupClosed_iff, Bool.not_eq_true', List.any_eq_false]
  refine and_congr_right fun _ => forall_congr' fun i => ?_
  rw [State.berthIndices, List.mem_range, ← onItsWay_eq_false_iff, Bool.and_eq_true, not_and', Bool.not_eq_true]

/-- The berths that the group completion test of a LOCKED unit publishes, in its order (R73). -/
def State.completeMembers (s : State) (r : RingId) : List Nat :=
  ((s.stagedBases r).filter (s.groupComplete r)).flatMap fun b =>
    orderedMembers s.rings[r].profile.groupSize b (s.stagedBerths r)

theorem mem_completeMembers : i ∈ s.completeMembers r ↔
    (i < s.rings[r].profile.berthCount ∧ (s.ringBerth r i).state = .staged) ∧
      ∃ base ∈ s.stagedBases r, s.groupComplete r base = true ∧
        inGroup s.rings[r].profile.groupSize base (seqField (s.ringBerth r i)) = true := by
  simp only [State.completeMembers, List.mem_flatMap, List.mem_filter, mem_orderedMembers, mem_stagedBerths,
    State.berthIndices, List.mem_range]
  constructor
  · rintro ⟨base, ⟨among, complete⟩, q, ⟨hi, staged, rfl⟩, within⟩
    exact ⟨⟨hi, staged⟩, base, among, complete, within⟩
  · rintro ⟨⟨hi, staged⟩, base, among, complete, within⟩
    exact ⟨base, ⟨among, complete⟩, _, ⟨hi, staged, rfl⟩, within⟩

theorem groupTest_unlocked (h : s.rings[r].tracking.group ≠ .locked) : s.groupTest r = s := if_neg h

/-- The group completion test of a LOCKED unit publishes the members of complete groups and does nothing else (R72, R73). -/
theorem publication_groupTest_locked (h : s.rings[r].tracking.group = .locked) :
    Publication r (s.stagedAmong r (s.completeMembers r)) s (s.groupTest r) := by
  rw [State.groupTest, if_pos h]
  exact publication_foldl r _ s

end

/-- Settles O24: the test publishes `completeMembers`, whose members are the STAGED berths of the complete groups. -/
theorem completeGroupsArePublished : Obligations.CompleteGroupsArePublished := by
  intro s r
  refine ⟨groupTest_unlocked, fun locked _ => ?_⟩
  intro _ _ _ _ published
  have publication := publication_groupTest_locked locked
  have tracking := (publishes_groupTest s r).tracking r
  obtain ⟨rings, pool, holds, counters, frame⟩ := publication.inner.frame
  refine ⟨fun i hi => ?_, tracking, by rw [frame], by rw [frame], by rw [frame]⟩
  have among : s.stagedAmong r (s.completeMembers r) (s.poolIndex r i) = true ↔ published i := by
    rw [stagedAmong_poolIndex, mem_completeMembers]
    refine and_congr_right fun staged => ?_
    rw [and_iff_right ⟨hi, staged⟩]
    constructor
    · rintro ⟨base, ofStaged, whole, within⟩
      obtain ⟨j, hj, stagedToo, rfl⟩ := mem_stagedBases.mp ofStaged
      exact ⟨j, hj, stagedToo, groupComplete_iff.mp whole, within⟩
    · rintro ⟨j, hj, stagedToo, whole, within⟩
      exact ⟨_, mem_stagedBases.mpr ⟨j, hj, stagedToo, rfl⟩, groupComplete_iff.mpr whole, within⟩
  rw [publication.ringBerth]
  exact ⟨fun here => if_pos (among.mpr here), fun other => if_neg fun here => other (among.mp here)⟩

/-! ## The examination of a start -/

section

variable {s : State} {r : RingId} {x : Examined}

theorem examine_nothing (h : s.rings[r].tracking.align ≠ .locked ∨ s.rings[r].tracking.group = .off) : s.examine r x = s := by
  unfold State.examine
  dsimp only
  split
  · next locked =>
    rw [h.resolve_left (not_not_intro locked)]
  · rfl

theorem examine_search (ha : s.rings[r].tracking.align = .locked) (hg : s.rings[r].tracking.group = .search) :
    s.examine r x = s.examineSearch r x := by
  rw [State.examine, if_pos ha, hg]

theorem examine_ungrouped (ha : s.rings[r].tracking.align = .locked) (hg : s.rings[r].tracking.group = .ungrouped) :
    s.examine r x = s.examineUngrouped r x := by
  rw [State.examine, if_pos ha, hg]

theorem examine_locked (ha : s.rings[r].tracking.align = .locked) (hg : s.rings[r].tracking.group = .locked) :
    s.examine r x = s.examineLocked r x := by
  rw [State.examine, if_pos ha, hg]

/-- A mark locks the unit when its candidate is exactly G behind (R67). -/
theorem markLocks_iff (g : RingRecord) (x : Examined) : g.markLocks x = true ↔
    x.mark = true ∧ ∃ c : Seq, g.tracking.groupCandidate = some c ∧ (x.seq - c).toNat = g.profile.groupSize := by
  rw [RingRecord.markLocks, Bool.and_eq_true]
  refine and_congr_right fun _ => ?_
  cases g.tracking.groupCandidate with
  | none => simp
  | some c => simp

theorem takeCandidate_eq (x : Examined) (t : Tracking) :
    t.takeCandidate x = { t with groupCandidate := if x.mark then some x.seq else t.groupCandidate } := by
  unfold Tracking.takeCandidate
  split <;> rfl

/-! ## In SEARCH and in UNGROUPED -/

/-- The count of a start examined in SEARCH (R67). -/
def State.countStart (r : RingId) (s : State) : State :=
  s.modTracking r fun t => { t with searchCount := t.searchCount + 1 }

theorem ring_countStart (s : State) (r : RingId) : (s.countStart r).rings[r] =
    { s.rings[r] with tracking := { s.rings[r].tracking with searchCount := s.rings[r].tracking.searchCount + 1 } } :=
  ring_modRing_same s r _

theorem markLocks_countStart : (s.countStart r).rings[r].markLocks x = s.rings[r].markLocks x := by
  rw [ring_countStart]
  rfl

/-- A mark that locks the unit in SEARCH (R67). -/
theorem examineSearch_locks (h : s.rings[r].markLocks x = true) : s.examineSearch r x =
    (s.modTracking r fun t =>
      { t with
        searchCount := t.searchCount + 1, group := .locked, groupStart := some x.seq, groupErrors := 0
        groupCandidate := none }).raise
      { x.record r .groupLocked with detail := BitVec.ofNat 8 s.rings[r].profile.groupSize } := by
  have locks : s.examineSearch r x = (s.countStart r).lockGroup r x := if_pos (markLocks_countStart.trans h)
  rw [locks, State.lockGroup, ring_countStart, State.countStart, modTracking_modTracking]

/-- A start that does not lock the unit is counted and its mark taken (R67). -/
theorem takeCandidate_countStart (s : State) (r : RingId) (x : Examined) :
    (s.countStart r).modTracking r (Tracking.takeCandidate x) = s.modTracking r fun t =>
      { t with searchCount := t.searchCount + 1, groupCandidate := if x.mark then some x.seq else t.groupCandidate } :=
  (modTracking_modTracking s r _ _).trans (modTracking_congr s r (takeCandidate_eq x _))

theorem fullCount_countStart : (s.countStart r).rings[r].tracking.searchCount =
      4 * (s.countStart r).rings[r].profile.groupSize ↔
    s.rings[r].tracking.searchCount + 1 = 4 * s.rings[r].profile.groupSize := by
  rw [ring_countStart]

/-- A start in SEARCH that neither locks the unit nor fills its count (R67). -/
theorem examineSearch_counts (h : ¬s.rings[r].markLocks x = true)
    (hc : s.rings[r].tracking.searchCount + 1 ≠ 4 * s.rings[r].profile.groupSize) : s.examineSearch r x =
      s.modTracking r fun t =>
        { t with searchCount := t.searchCount + 1, groupCandidate := if x.mark then some x.seq else t.groupCandidate } := by
  have unlocked : ¬(s.countStart r).rings[r].markLocks x = true := by rwa [markLocks_countStart]
  exact ((if_neg unlocked).trans (if_neg (fullCount_countStart.not.mpr hc))).trans (takeCandidate_countStart s r x)

/-- The fallback at the start that brings the count to 4 G without a lock (R68). -/
theorem examineSearch_fallsBack (h : ¬s.rings[r].markLocks x = true)
    (hc : s.rings[r].tracking.searchCount + 1 = 4 * s.rings[r].profile.groupSize) : s.examineSearch r x =
      (s.modTracking r fun t =>
        { t with
          searchCount := t.searchCount + 1, groupCandidate := if x.mark then some x.seq else t.groupCandidate
          group := .ungrouped }).raise
        { x.record r .groupFallback with detail := BitVec.ofNat 8 s.rings[r].profile.groupSize } := by
  have unlocked : ¬(s.countStart r).rings[r].markLocks x = true := by rwa [markLocks_countStart]
  refine ((if_neg unlocked).trans (if_pos (fullCount_countStart.mpr hc))).trans ?_
  rw [← State.countStart, takeCandidate_countStart, modTracking_modTracking, ring_countStart]

theorem examineUngrouped_stays (h : s.rings[r].profile.keepSearching = false) : s.examineUngrouped r x = s :=
  if_neg (by rw [h]; exact Bool.false_ne_true)

theorem examineUngrouped_locks (h : s.rings[r].profile.keepSearching = true) (hl : s.rings[r].markLocks x = true) :
    s.examineUngrouped r x = s.lockGroup r x := (if_pos h).trans (if_pos hl)

theorem examineUngrouped_other (h : s.rings[r].profile.keepSearching = true) (hl : ¬s.rings[r].markLocks x = true) :
    s.examineUngrouped r x =
      s.modTracking r fun t => { t with groupCandidate := if x.mark then some x.seq else t.groupCandidate } :=
  ((if_pos h).trans (if_neg hl)).trans (modTracking_congr s r (takeCandidate_eq x _))

/-! ## In LOCKED -/

/-- The start's mark does not fit its group position (R70). -/
def RingRecord.outOfPlace (g : RingRecord) (x : Examined) : Prop :=
  ¬(groupPosition g.profile.groupSize (g.tracking.groupStart.getD 0) x.seq = 0 ↔ x.mark = true)

/-- A group error: counted, and one more in a row (R70). -/
def State.groupError (r : RingId) (s : State) : State :=
  (s.count r .groupErrors).modTracking r fun t => { t with groupErrors := t.groupErrors + 1 }

theorem first_eq_mark_iff (g : RingRecord) (x : Examined) :
    ((groupPosition g.profile.groupSize (g.tracking.groupStart.getD 0) x.seq == 0) == x.mark) = true ↔ ¬g.outOfPlace x := by
  rw [RingRecord.outOfPlace, not_not, beq_iff_eq, Bool.eq_iff_iff, beq_iff_eq]

theorem examineLocked_good (h : ¬s.rings[r].outOfPlace x) : s.examineLocked r x =
    s.modTracking r fun t => { t with groupErrors := 0, groupStart := if x.mark then some x.seq else t.groupStart } :=
  if_pos ((first_eq_mark_iff _ x).mpr h)

theorem ring_groupError (s : State) (r : RingId) : (s.groupError r).rings[r] =
    { s.rings[r] with tracking := { s.rings[r].tracking with groupErrors := s.rings[r].tracking.groupErrors + 1 } } :=
  ring_modRing_same (s.count r .groupErrors) r _

/-- A start out of place is a group error, and the second in a row loses the group lock (R70, R71). -/
theorem examineLocked_error (h : s.rings[r].outOfPlace x) : s.examineLocked r x =
    if 1 ≤ s.rings[r].tracking.groupErrors then (s.groupError r).loseGroup r x else s.groupError r := by
  have errs : s.examineLocked r x =
      if 2 ≤ (s.groupError r).rings[r].tracking.groupErrors then (s.groupError r).loseGroup r x else s.groupError r :=
    if_neg fun fits => (first_eq_mark_iff _ x).mp fits h
  rw [errs, ring_groupError]
  exact if_congr Nat.succ_le_succ_iff rfl rfl

theorem groupError_first (h : s.rings[r].tracking.groupErrors = 0) :
    s.groupError r = (s.count r .groupErrors).modTracking r fun t => { t with groupErrors := 1 } :=
  modTracking_congr (s.count r .groupErrors) r (by rw [rings_count, h])

/-! ## The loss of the group lock -/

theorem ringBerth_groupError (s : State) (r : RingId) (i : Nat) : (s.groupError r).ringBerth r i = s.ringBerth r i :=
  ringBerth_congr r i (poolIndex_modTracking (s.count r .groupErrors) r _ i) rfl

theorem stagedBerths_groupError (s : State) (r : RingId) : (s.groupError r).stagedBerths r = s.stagedBerths r := by
  simp only [State.stagedBerths, State.berthIndices, ringBerth_groupError, ring_groupError]

theorem published_groupError (s : State) (r : RingId) (b : Berth) :
    (s.groupError r).rings[r].published .ready b = s.rings[r].published .ready b :=
  published_of_sameBerths (by rw [ring_groupError]; exact ⟨rfl, rfl, rfl, rfl⟩) .ready b

theorem toSearch_of_locked {t : Tracking} (h : t.group = .locked) : t.toSearch =
    { t with group := .search, groupCandidate := none, groupStart := none, groupErrors := 0, searchCount := 0 } :=
  if_neg (show t.group ≠ .off by rw [h]; nofun)

/-- What the loss of the group lock leaves before its record: every STAGED berth published, the unit in SEARCH (R71). -/
def State.groupLost (r : RingId) (s : State) : State := (s.publishAllStaged r).modTracking r Tracking.toSearch

theorem tracking_groupLost (s : State) (r : RingId) : (s.groupLost r).rings[r].tracking = s.rings[r].tracking.toSearch := by
  rw [State.groupLost, tracking_modTracking, State.publishAllStaged, (publishes_publishGroups s r _).tracking]

theorem counter_groupLost (s : State) (r : RingId) : (s.groupLost r).counter r .groupErrors = s.counter r .groupErrors :=
  (counter_congr (counters_modTracking _ r _) r _).trans ((publishes_publishGroups s r _).counter r _ nofun)

theorem report_groupLost (s : State) (r : RingId) : (s.groupLost r).report = s.report :=
  (publishes_publishGroups s r _).report

theorem ringBerth_groupLost {i : Nat} (h1 : 1 ≤ s.rings[r].profile.groupSize) (h2 : s.rings[r].profile.groupSize ≤ 16)
    (hi : i < s.rings[r].profile.berthCount) : (s.groupLost r).ringBerth r i =
      if (s.ringBerth r i).state = .staged then s.rings[r].published .ready (s.ringBerth r i) else s.ringBerth r i := by
  have berth : (s.groupLost r).ringBerth r i = (s.publishAllStaged r).ringBerth r i :=
    ringBerth_congr r i (poolIndex_modTracking _ r _ i) rfl
  have among : s.publishes r (s.poolIndex r i) = true ↔ (s.ringBerth r i).state = .staged :=
    stagedAmong_poolIndex.trans (and_iff_left (List.mem_range.mpr hi))
  rw [berth, (publication_publishAllStaged s r h1 h2).ringBerth]
  exact if_congr among rfl rfl

end

/-- Settles O23: state by state of the group unit, and in each by what the start's mark is. -/
theorem groupUnitExamines : Obligations.GroupUnitExamines := by
  intro s r x k size record locks candidate outOfPlace
  have whenLocks : s.rings[r].markLocks x = true ↔ locks := markLocks_iff _ x
  refine ⟨examine_nothing, fun align search => ?_, fun align ungrouped => ?_, fun align locked => ?_⟩
  · rw [examine_search align search]
    refine ⟨fun lock => examineSearch_locks (whenLocks.mpr lock), fun other count => ?_, fun other count => ?_⟩
    · rw [examineSearch_counts (whenLocks.not.mpr other) count]
      exact modTracking_congr s r rfl
    · rw [examineSearch_fallsBack (whenLocks.not.mpr other) count]
      exact congrArg (State.raise _) (modTracking_congr s r rfl)
  · rw [examine_ungrouped align ungrouped]
    refine ⟨examineUngrouped_stays, fun keep lock => examineUngrouped_locks keep (whenLocks.mpr lock), fun keep other => ?_⟩
    rw [examineUngrouped_other keep (whenLocks.not.mpr other)]
    exact modTracking_congr s r rfl
  · rw [examine_locked align locked]
    refine ⟨examineLocked_good, fun error first => ?_, fun error again => ?_⟩
    · have alone : ¬1 ≤ s.rings[r].tracking.groupErrors := Nat.not_le.mpr (Nat.lt_one_iff.mpr first)
      rw [examineLocked_error error, if_neg alone, groupError_first first]
    · refine ⟨(s.groupError r).groupLost r, ?_, ?_, counter_groupLost _ r, report_groupLost _ r, fun h1 h2 _ i hi => ?_⟩
      · rw [examineLocked_error error, if_pos again, State.loseGroup, stagedBerths_groupError]
        rfl
      · rw [tracking_groupLost, toSearch_of_locked (by rw [ring_groupError]; exact locked), ring_groupError]
      · rw [ringBerth_groupLost (by rwa [ring_groupError]) (by rwa [ring_groupError]) (by rwa [ring_groupError]),
          ringBerth_groupError, published_groupError]

end Sys2Proof.Machine
end

-- ==== Releases of a slot ====
section
/-! PROOFS. What the release of a slot from a ring's berths leaves (R84, R95), and the two causes of one: a cursor write (R83)
and DETACH (R80). -/

namespace Sys2Proof.Machine

open Sys2Proof Sys2Proof.Config

/-! ## A slot released from one berth -/

/-- The slots that must still release a berth once slot k has (R84). -/
def Berth.without (k : SlotId) (b : Berth) : BitVec 4 := b.pendingSet &&& ~~~(1#4 <<< k.val)

/-- A berth once slot k has released it (R84). -/
def Berth.releasedFrom (k : SlotId) (b : Berth) : Berth :=
  if b.without k = 0 then Berth.free b.generation else { b with pendingSet := b.without k }

/-- The berth is one of those to release slot k from, and waits for it (R80, R83, R84). -/
def Berth.releases (k : SlotId) (which : Berth → Bool) (b : Berth) : Bool := which b && b.pendingSet.getLsbD k.val

/-- The berth becomes FREE by the release of slot k (R84). -/
def Berth.freedBy (k : SlotId) (which : Berth → Bool) (b : Berth) : Bool := b.releases k which && b.without k == 0

/-- A ring whose occupancy falls by n berths (R95). -/
def RingRecord.vacated (n : Nat) (g : RingRecord) : RingRecord := { g with occupancy := g.occupancy - n }

theorem modRing_vacated_zero (s : State) (r : RingId) : s.modRing r (RingRecord.vacated 0) = s := by
  have same : s.rings.set r.val s.rings[r] = s.rings := Vector.set_getElem_self r.isLt
  exact congrArg (fun v => { s with rings := v }) same

theorem modRing_modRing (s : State) (r : RingId) (f g : RingRecord → RingRecord) :
    (s.modRing r f).modRing r g = s.modRing r fun x => g (f x) := by
  rw [State.modRing, ring_modRing_same]
  exact congrArg (fun v => { s with rings := v }) (Vector.set_set ..)

theorem modRing_vacated_add (s : State) (r : RingId) (m n : Nat) :
    s.modRing r (RingRecord.vacated (m + n)) =
      (s.modRing r (RingRecord.vacated m)).modRing r (RingRecord.vacated n) := by
  have sum (g : RingRecord) : g.vacated (m + n) = (g.vacated m).vacated n :=
    congrArg (fun o => { g with occupancy := o }) (Nat.sub_sub _ m n).symm
  rw [modRing_modRing, funext sum]

theorem modBerth_congr (s : State) (p : Nat) {f g : Berth → Berth} (h : f (s.berth p) = g (s.berth p)) :
    s.modBerth p f = s.modBerth p g := by
  unfold State.modBerth
  split
  · next hp =>
    rw [State.berth, dif_pos hp] at h
    rw [h]
  · rfl

/-- Slot k is released from berth i of ring r, if the berth is one of those to release it from. -/
def State.releaseAt (r : RingId) (k : SlotId) (which : Berth → Bool) (i : Nat) (s : State) : State :=
  if which (s.ringBerth r i) then s.releaseSlot r k i else s

section

variable {s : State} {r : RingId} {k : SlotId} {which : Berth → Bool} {i : Nat}

/-- A berth that slot k is not to release, or that does not wait for it, is left alone. -/
theorem releaseAt_kept (h : (s.ringBerth r i).releases k which = false) : s.releaseAt r k which i = s := by
  rw [Berth.releases, Bool.and_eq_false_iff] at h
  rcases h with other | released
  · rw [State.releaseAt, other]
    rfl
  · rw [State.releaseAt, State.releaseSlot, released]
    exact ite_self s

theorem freedBy_of_releases (h : (s.ringBerth r i).releases k which = true) :
    (s.ringBerth r i).freedBy k which = true ↔ (s.ringBerth r i).without k = 0 := by
  rw [Berth.freedBy, h, Bool.true_and, beq_iff_eq]

/-- A berth that waits for slot k waits for it no longer; freed by that, it leaves the occupancy (R84, R95). -/
theorem releaseAt_released (h : (s.ringBerth r i).releases k which = true) : s.releaseAt r k which i =
    (s.modBerth (s.poolIndex r i) (Berth.releasedFrom k)).modRing r
      (RingRecord.vacated (if (s.ringBerth r i).freedBy k which then 1 else 0)) := by
  obtain ⟨chosen, waits⟩ := Bool.and_eq_true_iff.mp h
  rw [State.releaseAt, if_pos chosen, State.releaseSlot, if_pos waits]
  by_cases last : (s.ringBerth r i).without k = 0
  · rw [if_pos ((freedBy_of_releases h).mpr last)]
    exact (if_pos last).trans (congrArg (State.occupancyDown r) (modBerth_congr s _ (if_pos last).symm))
  · rw [if_neg (last <| (freedBy_of_releases h).mp ·), modRing_vacated_zero]
    exact (if_neg last).trans (modBerth_congr s _ (if_neg last).symm)

theorem state_releaseAt (s : State) (r : RingId) (k : SlotId) (which : Berth → Bool) (i : Nat) :
    ∃ v, s.releaseAt r k which i =
      { s.modRing r (RingRecord.vacated (if (s.ringBerth r i).freedBy k which then 1 else 0)) with pool := v } := by
  cases h : (s.ringBerth r i).releases k which with
  | false =>
    have stays : (s.ringBerth r i).freedBy k which = false := by rw [Berth.freedBy, h, Bool.false_and]
    rw [releaseAt_kept h, stays]
    exact ⟨s.pool, (modRing_vacated_zero s r).symm⟩
  | true =>
    obtain ⟨v, hv⟩ := modBerth_pool s (s.poolIndex r i) (Berth.releasedFrom k)
    rw [releaseAt_released h, hv]
    exact ⟨v, rfl⟩

theorem berth_releaseAt_same (hi : s.poolIndex r i < 2048) : (s.releaseAt r k which i).berth (s.poolIndex r i) =
    if (s.ringBerth r i).releases k which = true then (s.ringBerth r i).releasedFrom k else s.ringBerth r i := by
  split
  · next h => rw [releaseAt_released h, berth_modRing, berth_modBerth_same _ _ _ hi, State.ringBerth]
  · next h => rw [releaseAt_kept (Bool.eq_false_iff.mpr h), State.ringBerth]

theorem berth_releaseAt_other {p : Nat} (hp : p ≠ s.poolIndex r i) : (s.releaseAt r k which i).berth p = s.berth p := by
  cases h : (s.ringBerth r i).releases k which with
  | false => rw [releaseAt_kept h]
  | true => rw [releaseAt_released h, berth_modRing, berth_modBerth_other _ _ _ _ hp]

end

/-! ## A slot released from the berths of a ring -/

/-- How many of the ring's first n berths become FREE by the release of slot k (R84, R95). -/
def State.freedCount (s : State) (r : RingId) (k : SlotId) (which : Berth → Bool) (n : Nat) : Nat :=
  ((List.range n).filter fun i => (s.ringBerth r i).freedBy k which).length

theorem freedCount_succ (s : State) (r : RingId) (k : SlotId) (which : Berth → Bool) (n : Nat) :
    s.freedCount r k which (n + 1) = s.freedCount r k which n + if (s.ringBerth r n).freedBy k which then 1 else 0 := by
  rw [State.freedCount, State.freedCount, List.range_succ, List.filter_append, List.length_append,
    ← List.countP_eq_length_filter (l := [n]), List.countP_singleton]

/-- From s to t slot k is released from those of ring r's first n berths that are to release it. -/
structure ReleasedTo (r : RingId) (k : SlotId) (which : Berth → Bool) (n : Nat) (s t : State) : Prop where
  state : ∃ v, t = { s.modRing r (RingRecord.vacated (s.freedCount r k which n)) with pool := v }
  inside : ∀ i, i < n → t.berth (s.poolIndex r i) =
    if (s.ringBerth r i).releases k which = true then (s.ringBerth r i).releasedFrom k else s.ringBerth r i
  outside : ∀ p, (∀ i, i < n → p ≠ s.poolIndex r i) → t.berth p = s.berth p

section

variable {r : RingId} {k : SlotId} {which : Berth → Bool} {n : Nat} {s t : State}

theorem ReleasedTo.poolIndex (h : ReleasedTo r k which n s t) (i : Nat) : t.poolIndex r i = s.poolIndex r i := by
  obtain ⟨v, rfl⟩ := h.state
  exact congrArg (·.poolIndex i) (ring_modRing_same s r _)

/-- The release of one berth more: no berth before it is the same pool record. -/
theorem ReleasedTo.next (h : ReleasedTo r k which n s t) (hn : s.poolIndex r n < 2048) :
    ReleasedTo r k which (n + 1) s (t.releaseAt r k which n) := by
  have apart {i : Nat} (hi : i < n) : s.poolIndex r i ≠ s.poolIndex r n := fun e => hi.ne (Nat.add_left_cancel e)
  have index : t.poolIndex r n = s.poolIndex r n := h.poolIndex n
  have untouched : t.ringBerth r n = s.ringBerth r n :=
    ringBerth_congr r n index (h.outside _ fun i hi => (apart hi).symm)
  refine ⟨?_, fun i hi => ?_, fun p hp => ?_⟩
  · obtain ⟨v, hv⟩ := h.state
    obtain ⟨v', hv'⟩ := state_releaseAt t r k which n
    refine ⟨v', ?_⟩
    rw [hv', untouched, hv, freedCount_succ, modRing_vacated_add]
    rfl
  · rcases Nat.lt_succ_iff_lt_or_eq.mp hi with before | rfl
    · rw [berth_releaseAt_other (by rw [index]; exact apart before), h.inside i before]
    · rw [← index, berth_releaseAt_same (by rw [index]; exact hn), untouched]
  · rw [berth_releaseAt_other (by rw [index]; exact hp n (Nat.lt_succ_self n)),
      h.outside p fun i hi => hp i (Nat.lt_succ_of_lt hi)]

end

theorem releasedTo_foldl (s : State) (r : RingId) (k : SlotId) (which : Berth → Bool) (n : Nat)
    (hn : s.rings[r].poolBase + n ≤ 2048) :
    ReleasedTo r k which n s ((List.range n).foldl (fun u i => u.releaseAt r k which i) s) := by
  induction n with
  | zero => exact ⟨⟨s.pool, (modRing_vacated_zero s r).symm⟩, fun i hi => absurd hi (Nat.not_lt_zero i), fun _ _ => rfl⟩
  | succ n ih =>
    rw [List.range_succ, List.foldl_append]
    exact (ih (Nat.le_of_succ_le hn)).next hn

/-- A slot is released from each berth of the ring that is to release it, and from no other (R80, R83, R84, R95). -/
theorem releasedTo_releaseSlotWhere (s : State) (r : RingId) (k : SlotId) (which : Berth → Bool)
    (hs : s.rings[r].poolBase + s.rings[r].profile.berthCount ≤ 2048) :
    ReleasedTo r k which s.rings[r].profile.berthCount s (s.releaseSlotWhere r k which) :=
  releasedTo_foldl s r k which _ hs

/-! ## Slots -/

section

variable (s : State) (r : RingId) (k : SlotId) (f : Slot → Slot)

theorem ring_modSlot_same : (s.modSlot r k f).rings[r] =
    { s.rings[r] with roster := s.rings[r].roster.set k.val (f s.rings[r].roster[k]) } := ring_modRing_same s r _

theorem ring_modSlot_other (q : RingId) (h : q ≠ r) : (s.modSlot r k f).rings[q] = s.rings[q] :=
  ring_modRing_other s r q _ h

theorem poolIndex_modSlot (i : Nat) : (s.modSlot r k f).poolIndex r i = s.poolIndex r i :=
  congrArg (·.poolIndex i) (ring_modSlot_same s r k f)

theorem ringBerth_modSlot (i : Nat) : (s.modSlot r k f).ringBerth r i = s.ringBerth r i :=
  ringBerth_congr r i (poolIndex_modSlot s r k f i) rfl

theorem freedCount_modSlot (which : Berth → Bool) (n : Nat) :
    (s.modSlot r k f).freedCount r k which n = s.freedCount r k which n := by
  simp only [State.freedCount, ringBerth_modSlot]

end

/-- What is left of a slot's release from the berths of its ring, after a change of the slot itself (R80, R83, R84, R95). -/
structure SlotReleased (r : RingId) (k : SlotId) (f : Slot → Slot) (which : Berth → Bool) (s t : State) : Prop where
  state : ∃ v, t = { s with
    rings := s.rings.set r.val
      { s.rings[r] with
        roster := s.rings[r].roster.set k.val (f s.rings[r].roster[k])
        occupancy := s.rings[r].occupancy - s.freedCount r k which s.rings[r].profile.berthCount }
    pool := v }
  inside : ∀ i, i < s.rings[r].profile.berthCount → t.ringBerth r i =
    if (s.ringBerth r i).releases k which = true then (s.ringBerth r i).releasedFrom k else s.ringBerth r i
  outside : ∀ p, (∀ i, i < s.rings[r].profile.berthCount → p ≠ s.poolIndex r i) → t.berth p = s.berth p

theorem slotReleased (s : State) (r : RingId) (k : SlotId) (f : Slot → Slot) (which : Berth → Bool)
    (hs : s.rings[r].poolBase + s.rings[r].profile.berthCount ≤ 2048) :
    SlotReleased r k f which s ((s.modSlot r k f).releaseSlotWhere r k which) := by
  have ring := ring_modSlot_same s r k f
  have profile : (s.modSlot r k f).rings[r].profile = s.rings[r].profile := by rw [ring]
  have base : (s.modSlot r k f).rings[r].poolBase = s.rings[r].poolBase := by rw [ring]; rfl
  have h := releasedTo_releaseSlotWhere (s.modSlot r k f) r k which (by rw [base, profile]; exact hs)
  rw [profile] at h
  refine ⟨?_, fun i hi => ?_, fun p hp => h.outside p fun i hi => ?_⟩
  · obtain ⟨v, hv⟩ := h.state
    refine ⟨v, ?_⟩
    rw [hv, freedCount_modSlot, State.modSlot, modRing_modRing]
    rfl
  · rw [State.ringBerth, h.poolIndex, h.inside i hi, ringBerth_modSlot]
  · rw [poolIndex_modSlot]
    exact hp i hi

/-! ## Cursor writes -/

/-- A cursor write's report: a new value that the old one is ahead of raises CURSOR_REGRESS (R83). -/
def State.regressReported (r : RingId) (k : SlotId) (c : Seq) (writer : Initiator) (s : State) : State :=
  match s.rings[r].roster[k].cursor with
  | some old =>
    if seqAhead old c = true then
      s.raise
        { kind := .cursorRegress, ring := ringField r, initiator := initiatorField writer, detail := BitVec.ofNat 8 k.val
          seq := c, extra := old.setWidth 32 }
    else s
  | none => s

theorem regressReported_eq (s : State) (r : RingId) (k : SlotId) (c : Seq) (writer : Initiator) :
    s.regressReported r k c writer = { s with report := (s.regressReported r k c writer).report } := by
  unfold State.regressReported
  split
  · split
    · exact raise_eq s _
    · rfl
  · rfl

/-- A cursor write reports a regress, stores the cursor and releases its slot (R83). -/
theorem slotReleased_takeCursor (s : State) (r : RingId) (k : SlotId) (c : Seq) (writer : Initiator)
    (hs : s.rings[r].poolBase + s.rings[r].profile.berthCount ≤ 2048) :
    SlotReleased r k (fun slot => { slot with cursor := some c, lapped := false }) (Berth.releasedBy c)
      { s with report := (s.regressReported r k c writer).report } (s.takeCursor r k c writer) := by
  rw [← regressReported_eq]
  exact slotReleased _ r k _ _ (by rw [regressReported_eq]; exact hs)

/-- Settles O36. -/
theorem cursorWriteReleases : Obligations.CursorWriteReleases := by
  intro s r k c writer hs t left releases
  have h := slotReleased_takeCursor s r k c writer hs
  obtain ⟨v, hv⟩ := h.state
  refine ⟨?_, h.inside, h.outside, fun q hq => ?_, ?_⟩
  · rw [show t = _ from hv]
    exact Vector.getElem_set_self r.isLt
  · rw [show t = _ from hv]
    exact Vector.getElem_set_ne r.isLt q.isLt fun e => hq (Fin.ext e.symm)
  · rw [show t = _ from hv]
    exact ⟨rfl, rfl, rfl, rfl, rfl, rfl⟩

/-! ## DETACH -/

section

variable {r : RingId} {k : SlotId} {f : Slot → Slot} {which : Berth → Bool} {s t : State}

/-- Entries that end have nothing to do with the slots (R103). -/
theorem SlotReleased.endHolds (h : SlotReleased r k f which s t) (measured : Bool) (test : HoldPlace → Bool) :
    ∃ c, SlotReleased r k f which
      { s with
        holds := s.holds.filter fun x => !(x.waiting && test x)
        responses := s.responses ++ notReadyResponses (s.holds.filter fun x => x.waiting && test x)
        counters := c } (t.endHolds measured test) := by
  obtain ⟨v, hv⟩ := h.state
  obtain ⟨c, hc, -⟩ := endHolds_spec t measured test
  refine ⟨c, ⟨v, ?_⟩, ?_, ?_⟩
  · rw [hc, hv]
    rfl
  · rw [hc]
    exact h.inside
  · rw [hc]
    exact h.outside

/-- A further change of the slot. -/
theorem SlotReleased.modSlot (h : SlotReleased r k f which s t) (g : Slot → Slot) :
    SlotReleased r k (fun slot => g (f slot)) which s (t.modSlot r k g) := by
  refine ⟨?_, fun i hi => ?_, h.outside⟩
  · obtain ⟨v, hv⟩ := h.state
    refine ⟨v, ?_⟩
    rw [hv]
    simp [State.modSlot, State.modRing]
  · rw [ringBerth_modSlot]
    exact h.inside i hi

end

/-- The entry is one that a DETACH of the slot ends (R80, R103). -/
def State.endsAtDetach (s : State) (r : RingId) (k : SlotId) (h : HoldPlace) : Bool :=
  h.ring == r && s.rings[r].roster[k].initiator == some h.read.initiator

/-- A DETACH ends its initiator's entries and releases the slot, in a state with only entries in the Hold Queue (R80, R84,
R103). -/
theorem slotReleased_detachSlot (s : State) (r : RingId) (k : SlotId)
    (hs : s.rings[r].poolBase + s.rings[r].profile.berthCount ≤ 2048) (hw : ∀ x ∈ s.holds, x.waiting = true) :
    ∃ c, SlotReleased r k (fun slot => ⟨.detached, slot.initiator, none, false⟩) (fun _ => true)
      { s with
        holds := s.holds.filter fun h => !s.endsAtDetach r k h
        responses := s.responses ++ notReadyResponses (s.holds.filter (s.endsAtDetach r k))
        counters := c } (s.detachSlot r k) := by
  have entries : s.holds.filter (fun x => x.waiting && s.endsAtDetach r k x) = s.holds.filter (s.endsAtDetach r k) :=
    List.filter_congr fun x hx => by rw [hw x hx, Bool.true_and]
  have others : s.holds.filter (fun x => !(x.waiting && s.endsAtDetach r k x)) =
      s.holds.filter fun x => !s.endsAtDetach r k x :=
    List.filter_congr fun x hx => by rw [hw x hx, Bool.true_and]
  obtain ⟨c, h⟩ := (slotReleased s r k (fun slot => { slot with state := .detached }) (fun _ => true) hs).endHolds true
    (s.endsAtDetach r k)
  rw [entries, others] at h
  exact ⟨c, h.modSlot fun slot => { slot with cursor := none, lapped := false }⟩

/-- DETACH of an attached slot of a ring that is not DISABLED is taken (R80). -/
theorem detach_attached {s : State} {r : RingId} {b : Byte} {k : SlotId} (hv : s.rings[r].validity = .valid)
    (hk : slotOfByte? b = some k) (h : s.rings[r].opState ≠ .disabled) (ha : s.rings[r].roster[k].state = .attached) :
    s.detach r b = .ok (s.detachSlot r k) := by
  cases ho : s.rings[r].opState with
  | disabled => exact absurd ho h
  | active => simp only [State.detach, hv, hk, ho, ha, ne_eq, not_true, if_false, if_true]
  | faultHeld => simp only [State.detach, hv, hk, ho, ha, ne_eq, not_true, if_false, if_true]

/-- Settles O40: the state that the command leaves is the one in which its slot is released, with COMMAND_DONE raised. -/
theorem detachTakesTheSlotOut : Obligations.DetachTakesTheSlotOut := by
  intro s w r k ht hk hd ha hs left held
  have waiting : ∀ x ∈ (s.commanded w).holds, x.waiting = true := waiting_of_portOpen s ht.1.1.1.1.1
  have taken : (s.commanded w).execute (commandOf 0x300 w) = .ok ((s.commanded w).detachSlot r k) :=
    (execute_detach (by rw [ht.1.2.2.2.2]; rfl) ht.2.1).trans (detach_attached (s := s.commanded w) ht.2.2.2 hk hd ha)
  obtain ⟨c, h⟩ := slotReleased_detachSlot (s.commanded w) r k hs waiting
  obtain ⟨v, hv⟩ := h.state
  have ring : ((s.commanded w).detachSlot r k).rings[r] =
      { s.rings[r] with
        roster := s.rings[r].roster.set k.val ⟨.detached, s.rings[r].roster[k].initiator, none, false⟩
        occupancy := s.rings[r].occupancy - s.freedCount r k (fun _ => true) s.rings[r].profile.berthCount } := by
    rw [hv]
    exact Vector.getElem_set_self r.isLt
  refine ⟨((s.commanded w).detachSlot r k).raise (commandDone w (ringField r) 6), ?_, ?_, fun j hj => ?_, fun i hi => ?_, ?_,
    fun q hq => ?_, ?_, ?_, ?_, ?_, ?_, ?_, ?_⟩
  · rw [exec_ringCommand _ w s _ r 6 rfl ht (by decide) (by decide) taken, settleReleases_waiting]
    rw [holds_raise, hv]
    exact fun x hx => waiting x (List.mem_of_mem_filter hx)
  · rw [rings_raise, ring]
    exact Vector.getElem_set_self k.isLt
  · rw [rings_raise, ring]
    exact Vector.getElem_set_ne k.isLt j.isLt fun e => hj (Fin.ext e.symm)
  · rw [State.ringBerth, State.poolIndex, rings_raise, berth_raise]
    exact h.inside i hi
  · rw [rings_raise, ring]
    rfl
  · rw [rings_raise, hv]
    exact Vector.getElem_set_ne r.isLt q.isLt fun e => hq (Fin.ext e.symm)
  · rw [holds_raise, hv]
    rfl
  · rw [responses_raise, hv]
    rfl
  · rw [rings_raise, ring]
  · rw [rings_raise, ring]
  · rw [verify_raise, hv]
    rfl
  · rw [port_raise, hv]
  · exact report_raise_congr _ (by rw [hv]; rfl) (by rw [hv]; rfl) (by rw [hv]; rfl)

end Sys2Proof.Machine
end

-- ==== Cursor words ====
section
/-! PROOFS. CURSOR_WRITE: the judgment of each cursor word, and a write refused whole or acting word by word (R81, R82). -/

namespace Sys2Proof.Machine

open Sys2Proof Sys2Proof.Config

/-! ## A write into the cursor area -/

theorem offset_of_classify {s : State} {a : Addr} {offset : Nat} (h : s.classify a = .control offset) :
    offset = a.toNat % 4096 := by
  unfold State.classify at h
  split at h
  · rw [← Area.control.inj h, controlOffset, BitVec.extractLsb'_toNat, Nat.shiftRight_zero]
  · split at h
    · cases h
    · split at h
      · cases h
      · split at h <;> cases h

/-- A write of good form that touches the cursor area begins in it: it lies in one block of 64 bytes (R81, R123). -/
theorem cursors_le_of_form {s : State} {w : WriteTx} {offset : Nat} (h : s.takesForm w)
    (hc : s.classify w.address = .control offset) (ht : touchesCursors offset w.length = true) : 0x400 ≤ offset := by
  have form := h.2.1
  rw [State.malformed, Bool.or_eq_false_iff, Bool.not_eq_false', extentOk, Bool.and_eq_true, Bool.and_eq_true,
    decide_eq_true_eq, decide_eq_true_eq, beq_iff_eq] at form
  obtain ⟨⟨⟨pos, -⟩, block⟩, -⟩ := form
  have start := offset_of_classify hc
  rw [touchesCursors, touches_iff] at ht
  omega

/-- Such a write is judged word by word; WEN does not guard the cursor area (R82, R134, R146). -/
theorem exec_cursorWrite {s : State} {w : WriteTx} {offset : Nat} (h : s.takesForm w)
    (hc : s.classify w.address = .control offset) (ht : touchesCursors offset w.length = true) :
    exec (.cursorWrite w) s = .next (s.settleReleases (s.writeCursorArea offset w)) := by
  have start := cursors_le_of_form h hc ht
  have unguarded : s.wenGuards (.control offset) w = false := by
    rw [← Bool.not_eq_true, wenGuards_control s w offset (length_pos_of_form h)]
    rintro ⟨k, hk, -, guarded⟩
    omega
  rw [exec_write_routed _ w s rfl ⟨h, .inr (by rw [hc]; exact unguarded)⟩, hc, State.routeWrite, State.writeControl, if_pos ht]

/-- A write with a refused word is refused whole, with the record of the lowest such word (R82). -/
theorem writeCursorArea_refused {s : State} {w : WriteTx} {offset : Nat} {before rest : List (RingId × SlotId)} {r : RingId}
    {k : SlotId} (words : touchedCursorWords offset w = before ++ (r, k) :: rest)
    (lower : ∀ a ∈ before, s.judgeCursorWord offset w a.1 a.2 ≠ .refused) (h : s.judgeCursorWord offset w r k = .refused) :
    s.writeCursorArea offset w = (s.refuse w).raise (cursorRefusedRecord offset w r k) := by
  have lowest : (touchedCursorWords offset w).find? (fun a => s.judgeCursorWord offset w a.1 a.2 == .refused) =
      some (r, k) := by
    rw [List.find?_eq_some_iff_append]
    refine ⟨beq_iff_eq.mpr h, before, rest, words, fun a ha => ?_⟩
    rw [Bool.not_eq_true', beq_eq_false_iff_ne]
    exact lower a ha
  rw [State.writeCursorArea, lowest]

/-- A write without a refused word passes, and each of its cursor writes acts in address order (R82). -/
theorem writeCursorArea_taken {s : State} {w : WriteTx} {offset : Nat}
    (h : ∀ a ∈ touchedCursorWords offset w, s.judgeCursorWord offset w a.1 a.2 ≠ .refused) :
    s.writeCursorArea offset w = ((touchedCursorWords offset w).filter fun a =>
      s.judgeCursorWord offset w a.1 a.2 == .cursorWrite).foldl
        (fun t a => t.takeCursor a.1 a.2 (cursorValue offset w a.1 a.2) w.initiator) (s.passWrite none w) := by
  have none : (touchedCursorWords offset w).find? (fun a => s.judgeCursorWord offset w a.1 a.2 == .refused) = none :=
    List.find?_eq_none.mpr fun a ha refused => h a ha (beq_iff_eq.mp refused)
  rw [State.writeCursorArea, none]

theorem cursorRefusedRecord_eq (offset : Nat) (w : WriteTx) (r : RingId) (k : SlotId) : cursorRefusedRecord offset w r k =
    { kind := .cursorRefused, ring := ringField r, initiator := initiatorField w.initiator
      detail := BitVec.ofNat 8 k.val
      seq := if covers offset w.length (cursorWord r k) = true ∧ covers offset w.length (cursorWord r k + 1) = true
        then cursorValue offset w r k else 0 } := by
  rw [cursorRefusedRecord]
  simp only [Bool.and_eq_true]

/-! ## Cursor writes end no hold -/

theorem holds_releaseSlotWhere (s : State) (r : RingId) (k : SlotId) (which : Berth → Bool) :
    (s.releaseSlotWhere r k which).holds = s.holds :=
  foldl_keeps State.holds (fun u i => u.releaseAt r k which i) (fun u i => by
    obtain ⟨v, hv⟩ := state_releaseAt u r k which i
    rw [hv]
    rfl) _ s

theorem holds_takeCursor (s : State) (r : RingId) (k : SlotId) (c : Seq) (writer : Initiator) :
    (s.takeCursor r k c writer).holds = s.holds := by
  have steps : s.takeCursor r k c writer = ((s.regressReported r k c writer).modSlot r k fun slot =>
      { slot with cursor := some c, lapped := false }).releaseSlotWhere r k (Berth.releasedBy c) := rfl
  rw [steps, holds_releaseSlotWhere, holds_modSlot, regressReported_eq]

/-! ## The cursor words -/

theorem mem_allCursorWords : ∀ (r : RingId) (k : SlotId), (r, k) ∈ allCursorWords := by decide

theorem mem_touchedCursorWords (offset : Nat) (w : WriteTx) (r : RingId) (k : SlotId) :
    (r, k) ∈ touchedCursorWords offset w ↔ offset < cursorWord r k + 8 ∧ cursorWord r k < offset + w.length := by
  rw [touchedCursorWords, List.mem_filter, touches_iff]
  exact and_iff_right (mem_allCursorWords r k)

theorem touchedCursorWords_ascend (offset : Nat) (w : WriteTx) :
    ((touchedCursorWords offset w).map fun a => 4 * a.1.val + a.2.val).Pairwise (· < ·) := by
  have all : (allCursorWords.map fun a => 4 * a.1.val + a.2.val).Pairwise (· < ·) := by decide
  exact all.sublist (List.filter_sublist.map _)

section

variable {s : State} {offset : Nat} {w : WriteTx} {r : RingId} {k : SlotId}

/-- A word of a ring without a window, or of a VACANT slot, is an ordinary one (R82). -/
theorem judgeCursorWord_unused (h : s.rings[r].validity ≠ .valid ∨ s.rings[r].roster[k].state = .vacant) :
    s.judgeCursorWord offset w r k = .ordinary := by
  unfold State.judgeCursorWord
  dsimp only
  split
  · rfl
  · next valid => rw [h.resolve_left valid]

variable (hv : s.rings[r].validity = .valid)

include hv

/-- No other initiator may write a slot's word (R82). -/
theorem judgeCursorWord_foreign (hs : s.rings[r].roster[k].state ≠ .vacant)
    (hi : s.rings[r].roster[k].initiator ≠ some w.initiator) : s.judgeCursorWord offset w r k = .refused := by
  rw [State.judgeCursorWord, if_neg (not_not.mpr hv)]
  cases state : s.rings[r].roster[k].state with
  | vacant => exact absurd state hs
  | attached => exact if_neg hi
  | detached => exact if_neg hi

variable (hi : s.rings[r].roster[k].initiator = some w.initiator)

include hi

theorem judgeCursorWord_detached (hs : s.rings[r].roster[k].state = .detached) :
    s.judgeCursorWord offset w r k = .ordinary := by
  rw [State.judgeCursorWord, if_neg (not_not.mpr hv), hs]
  exact if_pos hi

/-- The consumer's own write of an ATTACHED slot's word is judged by the cursor bytes it covers (R82). -/
theorem judgeCursorWord_own (hs : s.rings[r].roster[k].state = .attached) : s.judgeCursorWord offset w r k =
    if covers offset w.length (cursorWord r k) && covers offset w.length (cursorWord r k + 1) then .cursorWrite
    else if covers offset w.length (cursorWord r k) || covers offset w.length (cursorWord r k + 1) then .refused
    else .ordinary := by
  rw [State.judgeCursorWord, if_neg (not_not.mpr hv), hs]
  exact if_pos hi

/-- A write of one cursor byte alone is refused (R82). -/
theorem judgeCursorWord_half (hs : s.rings[r].roster[k].state = .attached)
    (apart : covers offset w.length (cursorWord r k) ≠ covers offset w.length (cursorWord r k + 1)) :
    s.judgeCursorWord offset w r k = .refused := by
  rw [judgeCursorWord_own hv hi hs, Bool.eq_not_iff.mpr apart]
  cases covers offset w.length (cursorWord r k + 1) <;> rfl

end

theorem cursorValue_covered {offset : Nat} {w : WriteTx} {r : RingId} {k : SlotId}
    (low : covers offset w.length (cursorWord r k) = true) (high : covers offset w.length (cursorWord r k + 1) = true) :
    cursorValue offset w r k = byteAt w.data (cursorWord r k + 1 - offset) ++ byteAt w.data (cursorWord r k - offset) := by
  rw [cursorValue, writtenByte, writtenByte, if_pos low, if_pos high]

/-- Settles O35. -/
theorem cursorWordsAreJudged : Obligations.CursorWordsAreJudged := by
  intro s w offset ht hc hw
  refine ⟨fun before r k rest words lower refused => ?_, fun taken => ?_, touchedCursorWords_ascend offset w,
    fun r k => ⟨mem_touchedCursorWords offset w r k, judgeCursorWord_unused, judgeCursorWord_foreign,
      fun hv hi => ⟨judgeCursorWord_detached hv hi, fun hs => ⟨fun low high => ?_, fun low high => ?_, fun apart => ?_⟩⟩⟩⟩
  · rw [exec_cursorWrite ht hc hw, writeCursorArea_refused words lower refused, settle_refuse_raise, cursorRefusedRecord_eq]
  · rw [exec_cursorWrite ht hc hw, writeCursorArea_taken taken, settleReleases_none]
    · rfl
    · rw [foldl_keeps State.holds _ fun t a => holds_takeCursor t _ _ _ _]
      rfl
  · refine ⟨?_, cursorValue_covered low high⟩
    rw [judgeCursorWord_own hv hi hs, cursorWord, low, high]
    rfl
  · rw [judgeCursorWord_own hv hi hs, cursorWord, low, high]
    rfl
  · exact judgeCursorWord_half hv hi hs apart

end Sys2Proof.Machine
end

-- ==== Judged reads and passed completions ====
section
/-! PROOFS. CONSUMER_READ by the tables of R90 and R91, and PASS_THROUGH_COMPLETION (R92, R126, R130, R131). -/

namespace Sys2Proof.Machine

open Sys2Proof Sys2Proof.Config

/-! ## Judged reads -/

section

variable {s : State} {t : ReadTx} {r : RingId} {b : Nat} {k : SlotId} (h : s.takesJudgedRead t r b k)

include h

/-- A judged read is one in its ring's window (R89). -/
theorem exec_judgedRead : exec (.consumerRead t) s = .next (s.settleReleases (s.readWindow r b t)) := by
  obtain ⟨taken, berth, -, -⟩ := h
  rw [exec_read _ t s rfl taken]
  cases area : s.classify t.address with
  | window q i o =>
    rw [area, Area.isBerth, Bool.and_eq_true, beq_iff_eq, beq_iff_eq] at berth
    obtain ⟨rfl, rfl⟩ := berth
    rfl
  | _ =>
    rw [area] at berth
    exact absurd berth Bool.false_ne_true

theorem readWindow_active (ha : s.rings[r].opState = .active) : s.readWindow r b t =
    if s.rings[r].roster[k].lapped = true then s.answer .lapped t else s.readActive r b t := by
  obtain ⟨-, -, consumer, attached⟩ := h
  simp only [State.readWindow, consumer, attached, ha, Bool.false_eq_true, if_false]

theorem readWindow_held (hh : s.rings[r].opState = .faultHeld) : s.readWindow r b t =
    if s.rings[r].roster[k].lapped = true then s.answer .lapped t else s.readHeld r b t := by
  obtain ⟨-, -, consumer, attached⟩ := h
  simp only [State.readWindow, consumer, attached, hh, Bool.false_eq_true, if_false]

end

theorem holdOrRefuse_eq (s : State) (r : RingId) (b : Nat) (t : ReadTx) : s.holdOrRefuse r b t =
    if s.rings[r].profile.holdLimit ≠ 0 then s.offerHold r b t else s.respond t.initiator t.tag .notReady [] :=
  (ite_not ..).symm

/-- The last three lines of R90. -/
theorem readFree_eq (s : State) (r : RingId) (b : Nat) (t : ReadTx) : s.readFree r b t =
    if s.rings[r].tracking.align = .locked then
      if s.rings[r].tracking.position = some b ∧ s.rings[r].profile.holdLimit ≠ 0 then s.offerHold r b t
      else s.respond t.initiator t.tag .notReady []
    else s.pushPass (readEntry t .okay) := by
  unfold State.readFree
  dsimp only
  split
  · by_cases expected : s.rings[r].tracking.position = some b
    · rw [if_pos expected, holdOrRefuse_eq]
      exact if_congr (and_iff_right expected).symm rfl rfl
    · rw [if_neg expected, if_neg fun h => expected h.1]
      rfl
  · rfl

/-- The table of R90 below its first line. -/
theorem readActive_eq (s : State) (r : RingId) (b : Nat) (t : ReadTx) : s.readActive r b t =
    if (s.ringBerth r b).state = .ready then s.pushPass (readEntry t .okay)
    else if (s.ringBerth r b).state = .damaged then
      s.pushPass (readEntry t (if s.rings[r].profile.poisonDamaged then .poisoned else .okay))
    else if (s.ringBerth r b).state ≠ .free then s.holdOrRefuse r b t
    else s.readFree r b t := by
  unfold State.readActive
  cases (s.ringBerth r b).state <;> rfl

/-- The table of R91 below its first line. -/
theorem readHeld_eq (s : State) (r : RingId) (b : Nat) (t : ReadTx) : s.readHeld r b t =
    if (s.ringBerth r b).state = .ready then s.pushPass (readEntry t .okay)
    else if (s.ringBerth r b).state = .damaged then
      s.pushPass (readEntry t (if s.rings[r].profile.poisonDamaged then .poisoned else .okay))
    else s.respond t.initiator t.tag .notReady [] := by
  unfold State.readHeld
  cases (s.ringBerth r b).state <;> rfl

/-- Every place holds an entry that still waits. -/
def State.allWaiting (s : State) : Prop := ∀ x ∈ s.holds, x.waiting = true

theorem allWaiting_offerHold {s : State} (h : s.allWaiting) (r : RingId) (b : Nat) (t : ReadTx) :
    (s.offerHold r b t).allWaiting := by
  unfold State.offerHold State.allWaiting
  split
  · intro x hx
    rcases List.mem_append.mp hx with old | new
    · exact h x old
    · rw [List.mem_singleton.mp new]
      rfl
  · rw [holds_raise]
    exact h

theorem allWaiting_holdOrRefuse {s : State} (h : s.allWaiting) (r : RingId) (b : Nat) (t : ReadTx) :
    (s.holdOrRefuse r b t).allWaiting := by
  unfold State.holdOrRefuse
  split
  · exact h
  · exact allWaiting_offerHold h r b t

theorem allWaiting_readFree {s : State} (h : s.allWaiting) (r : RingId) (b : Nat) (t : ReadTx) :
    (s.readFree r b t).allWaiting := by
  rw [readFree_eq]
  split
  · split
    · exact allWaiting_offerHold h r b t
    · exact h
  · exact h

/-- A judged read releases no read (R90). -/
theorem allWaiting_readActive {s : State} (h : s.allWaiting) (r : RingId) (b : Nat) (t : ReadTx) :
    (s.readActive r b t).allWaiting := by
  rw [readActive_eq]
  split
  · exact h
  · split
    · exact h
    · split
      · exact allWaiting_holdOrRefuse h r b t
      · exact allWaiting_readFree h r b t

theorem holds_readHeld (s : State) (r : RingId) (b : Nat) (t : ReadTx) : (s.readHeld r b t).holds = s.holds := by
  unfold State.readHeld
  cases (s.ringBerth r b).state <;> rfl

/-- Settles O31. -/
theorem judgedReadInAnActiveRing : Obligations.JudgedReadInAnActiveRing := by
  intro s t r b k ht ha
  have waiting : s.allWaiting := waiting_of_portOpen s ht.1.1
  rw [exec_judgedRead ht, readWindow_active ht ha, ← holdOrRefuse_eq, ← readFree_eq, ← readActive_eq]
  split
  · rw [settleReleases_none s (s.answer .lapped t) rfl]
    rfl
  · rw [settleReleases_waiting s _ (allWaiting_readActive waiting r b t)]

/-- Settles O32. -/
theorem judgedReadInAHeldRing : Obligations.JudgedReadInAHeldRing := by
  intro s t r b k ht hh
  rw [exec_judgedRead ht, readWindow_held ht hh, ← readHeld_eq]
  split
  · rw [settleReleases_none s (s.answer .lapped t) rfl]
    rfl
  · rw [settleReleases_none s _ (holds_readHeld s r b t)]

/-! ## Completions that pass through -/

/-- The response to a passed transaction at its completion (R125, R130). -/
def PassEntry.response (e : PassEntry) : MemResult → Response
  | .memfault => ⟨e.initiator, e.tag, .memfault, []⟩
  | .okay data => match e.body with
    | .read .okay => ⟨e.initiator, e.tag, .okay, data.take e.length⟩
    | .read .poisoned => ⟨e.initiator, e.tag, .poisoned, data.take e.length⟩
    | .write _ _ => ⟨e.initiator, e.tag, .okay, []⟩

theorem respondCompleted_eq (s : State) (e : PassEntry) (m : MemResult) :
    s.respondCompleted e m = { s with responses := s.responses ++ [e.response m] } := by
  unfold State.respondCompleted PassEntry.response
  cases m with
  | memfault => rfl
  | okay data =>
    cases e.body with
    | read outcome => cases outcome <;> rfl
    | write _ _ => rfl

/-- The state in which a completed request has left the port and its transaction is answered (R126, R130). -/
def State.answeredBy (s : State) (e : PassEntry) (rest : List Request) (m : MemResult) : State :=
  { s with
    port := { s.port with passThrough := s.port.passThrough.erase e, inFlight := rest }
    responses := s.responses ++ [e.response m] }

/-- The state in which a completed request has left the port, and its transaction's completion has had its effects (R126,
R130, R131). -/
def State.completedBy (s : State) (e : PassEntry) (rest : List Request) (m : MemResult) : State :=
  match m with
  | .okay _ => s.answeredBy e rest m
  | .memfault => (s.answeredBy e rest m).raise (e.faultRecord (s.classify e.address))

theorem completeEntry_retired (s : State) (q : Request) (rest : List Request) (e : PassEntry) (m : MemResult)
    (hq : s.port.inFlight = q :: rest) : s.retire.completeEntry e m = s.completedBy e rest m := by
  have answered : (s.retire.freeEntry e).respondCompleted e m = s.answeredBy e rest m := by
    rw [respondCompleted_eq]
    simp only [State.retire, State.freeEntry, State.modPort, hq, List.tail_cons, State.answeredBy]
  cases m with
  | okay data => exact answered
  | memfault => exact congrArg (State.raise (e.faultRecord (s.classify e.address))) answered

theorem holds_completedBy (s : State) (e : PassEntry) (rest : List Request) (m : MemResult) :
    (s.completedBy e rest m).holds = s.holds := by
  cases m with
  | okay data => rfl
  | memfault => exact holds_raise _ _

/-- PASS_THROUGH_COMPLETION of the oldest request, that of a passed transaction which is no tracked write (R130). -/
theorem exec_passThroughCompletion (s : State) (q : Request) (rest : List Request) (i : Initiator) (g : Tag) (e : PassEntry)
    (m : MemResult) (hq : s.port.inFlight = q :: rest) (ho : q.origin = .passThrough i g)
    (he : s.port.entry? i g = some e) (hx : e.tracked? = none) (hd : s.nothingDue) :
    exec (.passThroughCompletion m) s = .next (s.completedBy e rest m).drainLink := by
  have oldest : s.oldestEntry = some e := by
    rw [State.oldestEntry, hq]
    simp only [List.head?_cons, ho, he]
  have completed : s.completePassThrough m = s.completedBy e rest m := by
    rw [State.completePassThrough, oldest, ← completeEntry_retired s q rest e m hq]
    simp only [hx, Option.isNone_none, if_true]
  calc exec (.passThroughCompletion m) s
      = .next (s.settleReleases (s.completePassThrough m)).drainLink := congrArg _ (event_nothingDue s _ hd)
    _ = .next (s.completedBy e rest m).drainLink := by
        rw [completed, settleReleases_none s _ (holds_completedBy s e rest m)]

/-- Settles O45. -/
theorem passThroughCompletionAnswers : Obligations.PassThroughCompletionAnswers := by
  refine ⟨fun s q rest i g e hq ho he hx hd => ⟨fun data => ?_, ?_⟩, fun e a => ?_⟩
  · exact exec_passThroughCompletion s q rest i g e (.okay data) hq ho he hx hd
  · exact exec_passThroughCompletion s q rest i g e .memfault hq ho he hx hd
  · cases a <;> rfl

end Sys2Proof.Machine
end

-- ==== Held reads: admission, deadline, entry ====
section
/-! PROOFS. The Hold Queue's own rules: admission (R97), the end of an entry at its deadline (R102), and the entry of released
reads into the pass-through queue (R99, R100). -/

namespace Sys2Proof.Machine

open Sys2Proof Sys2Proof.Config

/-! ## Admission -/

/-- Settles O33: both sides say the admission of R97, the model by its named updates. -/
theorem holdQueueAdmitsSixteen : Obligations.HoldQueueAdmitsSixteen := by
  intro s r b t
  by_cases room : s.holds.length < 16
  · rw [if_pos room]
    exact if_pos room
  · rw [if_neg room]
    exact if_neg room

/-! ## Released reads and entries -/

theorem not_waiting (h : HoldPlace) : (!h.waiting) = h.released.isSome := Option.not_isNone _

theorem releasedCount_eq (s : State) : s.releasedCount = (s.holds.filter fun h => h.released.isSome).length := by
  simp only [State.releasedCount, not_waiting]

theorem releasedWaits_eq_false_iff (s : State) : s.releasedWaits = false ↔ s.releasedCount = 0 := by
  rw [State.releasedWaits, State.releasedCount, List.length_eq_zero_iff, List.filter_eq_nil_iff, List.any_eq_false]

/-- At the end of an event that left no more released reads than before, none enters (R100). -/
theorem settleReleases_of_le {s t : State} (h : t.releasedCount ≤ s.releasedCount) : s.settleReleases t = t :=
  if_neg (Nat.not_lt.mpr h)

theorem releasedWaits_congr {s t : State} (h : t.releasedCount = s.releasedCount) : t.releasedWaits = s.releasedWaits := by
  rw [Bool.eq_iff_iff, ← Bool.not_eq_false, ← Bool.not_eq_false, releasedWaits_eq_false_iff, releasedWaits_eq_false_iff, h]

theorem passThroughFree_congr {s t : State} (h : t.port.passThrough.length = s.port.passThrough.length) :
    t.passThroughFree = s.passThroughFree := by
  rw [State.passThroughFree, State.passThroughFree, h]

/-- Acceptance looks at the command unit, at the number of pass-through entries and at whether a released read waits (R122). -/
theorem accepts_congr {s t : State} (hu : t.control.unit = s.control.unit)
    (hp : t.port.passThrough.length = s.port.passThrough.length) (hr : t.releasedCount = s.releasedCount) :
    t.accepts = s.accepts := by
  rw [State.accepts, State.accepts, hu, passThroughFree_congr hp, releasedWaits_congr hr]

/-! ## Deadlines -/

/-- The state in which an entry's deadline has ended it (R102, R107). -/
def State.deadlineEnded (s : State) (h : HoldPlace) : State :=
  State.count h.ring .holdsExpired (State.raise
    { kind := .holdExpired, ring := ringField h.ring
      berth := berthField (h.berth - s.rings[h.ring].poolBase), seq := seqField (s.berth h.berth)
      initiator := initiatorField h.read.initiator, extra := h.read.tag.setWidth 32 }
    { s with
      holds := s.holds.erase h
      responses := s.responses ++ [⟨h.read.initiator, h.read.tag, .notReady, []⟩]
      counters := (s.raisePeak h.ring .peakHoldTime (s.timeBase.now - h.arrival)).counters })

theorem expireHold_eq (s : State) (h : HoldPlace) : s.expireHold h = s.deadlineEnded h := rfl

theorem holds_deadlineEnded (s : State) (h : HoldPlace) : (s.deadlineEnded h).holds = s.holds.erase h := by
  simp only [State.deadlineEnded, holds_count, holds_raise]

/-- A deadline ends an entry, so it leaves the released reads (R102). -/
theorem releasedCount_deadlineEnded {s : State} {h : HoldPlace} (hm : h ∈ s.holds) (hw : h.waiting = true) :
    (s.deadlineEnded h).releasedCount = s.releasedCount := by
  have same := ((List.perm_cons_erase hm).filter fun x => !x.waiting).length_eq
  rw [List.filter_cons_of_neg (by simp [hw])] at same
  rw [State.releasedCount, holds_deadlineEnded]
  exact same.symm

/-- A deadline's event owes nothing but its grants: no read is released, and the port may accept no more than before (R102,
R122). -/
theorem settle_deadlineEnded {s : State} {h : HoldPlace} (hm : h ∈ s.holds) (hw : h.waiting = true) (hl : s.linkSettled) :
    (s.settleReleases (s.deadlineEnded h)).drainLink = s.deadlineEnded h := by
  have count := releasedCount_deadlineEnded hm hw
  rw [settleReleases_of_le count.le]
  refine drainLink_settled _ (hl.imp (fun e => ?_) (fun e => ?_))
  · simpa only [State.deadlineEnded, link_count, link_raise] using e
  · rw [accepts_congr (s := s) ?_ ?_ count, e]
    · simp only [State.deadlineEnded, control_count, control_raise]
    · simp only [State.deadlineEnded, port_count, port_raise]

/-- Settles O56. -/
theorem holdDeadlineEndsTheEntry : Obligations.HoldDeadlineEndsTheEntry := by
  intro s h hd hf
  have due : s.holdDue h = true := by
    have found := List.find?_some hf
    simp only [Bool.and_eq_true] at found
    exact found.1.1
  have waiting : h.waiting = true := by
    rw [State.holdDue, Bool.and_eq_true] at due
    exact due.1
  have expired : s.expireHoldOf h.read.initiator h.read.tag = s.deadlineEnded h := by
    rw [State.expireHoldOf, hf]
    exact expireHold_eq s h
  have ended : s.event (State.expireHoldOf h.read.initiator h.read.tag) = s.deadlineEnded h := by
    rw [event_nothingDue s _ hd, expired, settle_deadlineEnded (List.mem_of_find?_eq_some hf) waiting hd.1]
  exact congrArg Host.Outcome.next ended

/-! ## The entry of released reads -/

/-- The oldest released read is found behind whatever entries stand before it (R100). -/
theorem takeReleased_append {h : HoldPlace} {o : ReadOutcome} (ho : h.released = some o) (rest before : List HoldPlace)
    (hb : ∀ e ∈ before, e.released = none) : takeReleased (before ++ h :: rest) = some (h.read, o, before ++ rest) := by
  induction before with
  | nil => simp only [List.nil_append, takeReleased, ho]
  | cons e before ih =>
    rw [List.cons_append, takeReleased, hb e List.mem_cons_self, ih fun x hx => hb x (List.mem_cons_of_mem e hx)]
    rfl

/-- A released read takes a free entry, last in the pass-through queue (R100). -/
theorem enterReleased_append {s : State} {h : HoldPlace} {o : ReadOutcome} {before rest : List HoldPlace}
    (hs : s.holds = before ++ h :: rest) (hb : ∀ e ∈ before, e.released = none) (ho : h.released = some o)
    (hf : s.passThroughFree = true) :
    s.enterReleased = { s with
      holds := before ++ rest, port := { s.port with passThrough := s.port.passThrough ++ [readEntry h.read o] } } := by
  rw [State.enterReleased, hs, takeReleased_append ho rest before hb]
  exact if_pos hf

theorem passThroughFree_iff (s : State) : s.passThroughFree = true ↔ s.port.passThrough.length < 32 := decide_eq_true_iff

/-- No released read to enter, or no entry for one: none enters, however many may (R100). -/
theorem enterAllReleased_none {s : State} (h : s.releasedWaits = false ∨ s.passThroughFree = false) (n : Nat) :
    State.enterAllReleased n s = s := by
  cases n with
  | zero => rfl
  | succ n => exact if_neg (by rcases h with h | h <;> simp [h])

/-- The state in which the released reads `reads`, which stand before the entries, have taken the free pass-through entries as
far as these allow (R100). -/
def State.readsEntered (s : State) (reads entries : List HoldPlace) : State :=
  { s with
    holds := reads.drop (32 - s.port.passThrough.length) ++ entries
    port := { s.port with
      passThrough := s.port.passThrough ++
        (reads.take (32 - s.port.passThrough.length)).map fun h => readEntry h.read (h.released.getD .okay) } }

theorem readsEntered_full {s : State} {reads entries : List HoldPlace} (hs : s.holds = reads ++ entries)
    (hf : 32 ≤ s.port.passThrough.length) : s.readsEntered reads entries = s := by
  rw [State.readsEntered, Nat.sub_eq_zero_of_le hf, List.drop_zero, ← hs, List.take_zero, List.map_nil, List.append_nil]

/-- Released reads that stand before the entries enter in their order, as far as the free entries allow (R100). -/
theorem enterAllReleased_eq {entries : List HoldPlace} (he : ∀ h ∈ entries, h.released = none) :
    ∀ (reads : List HoldPlace) (n : Nat) (s : State), (∀ h ∈ reads, h.released.isSome = true) →
      s.holds = reads ++ entries → reads.length ≤ n → State.enterAllReleased n s = s.readsEntered reads entries := by
  intro reads
  induction reads with
  | nil =>
    intro n s _ hs _
    have none : s.releasedWaits = false := by
      rw [State.releasedWaits, hs, List.nil_append, List.any_eq_false]
      intro h hh
      rw [not_waiting, he h hh]
      exact nofun
    rw [enterAllReleased_none (.inl none), State.readsEntered, List.drop_nil, List.take_nil, ← hs, List.map_nil,
      List.append_nil]
  | cons h reads ih =>
    intro n s hr hs hn
    by_cases hf : s.passThroughFree = true
    · obtain ⟨o, ho⟩ := Option.isSome_iff_exists.mp (hr h List.mem_cons_self)
      have waits : s.releasedWaits = true := by
        rw [State.releasedWaits, hs, List.cons_append, List.any_cons, not_waiting, ho]
        rfl
      have entered := enterReleased_append (before := []) (rest := reads ++ entries) hs (fun _ => nofun) ho hf
      obtain ⟨m, rfl⟩ : ∃ m, n = m + 1 := ⟨n - 1, by rw [List.length_cons] at hn; omega⟩
      have step : State.enterAllReleased (m + 1) s = State.enterAllReleased m s.enterReleased := if_pos (by rw [waits, hf]; rfl)
      rw [passThroughFree_iff] at hf
      obtain ⟨k, hk⟩ : ∃ k, 32 - s.port.passThrough.length = k + 1 := ⟨31 - s.port.passThrough.length, by omega⟩
      rw [step, entered, ih m _ (fun x hx => hr x (List.mem_cons_of_mem h hx)) rfl (Nat.le_of_succ_le_succ hn)]
      have left : 32 - (s.port.passThrough ++ [readEntry h.read o]).length = k := by
        rw [List.length_append, List.length_singleton]; omega
      simp only [State.readsEntered, left, hk, List.drop_succ_cons, List.take_succ_cons, List.map_cons, ho, Option.getD_some,
        List.append_assoc, List.singleton_append]
    · rw [enterAllReleased_none (.inr (Bool.eq_false_iff.mpr hf)), readsEntered_full hs]
      rw [passThroughFree_iff] at hf
      omega

/-- The end of an event that released reads: they enter ahead of the entries, behind those that waited already (R99, R100). -/
theorem settleReleases_eq {s t : State} (h : s.releasedCount < t.releasedCount) :
    s.settleReleases t =
      t.readsEntered (t.holds.filter fun h => h.released.isSome) (t.holds.filter fun h => h.released.isNone) := by
  have ordered : orderReleased t.holds =
      (t.holds.filter fun h => h.released.isSome) ++ t.holds.filter fun h => h.released.isNone := by
    simp only [orderReleased, not_waiting]
    rfl
  rw [State.settleReleases, if_pos h, State.enterReleases]
  refine enterAllReleased_eq (fun x hx => ?_) _ _ _ (fun x hx => (List.mem_filter.mp hx).2) ordered ?_
  · exact Option.isNone_iff_eq_none.mp (List.mem_filter.mp hx).2
  · rw [holds_modHolds, ordered, List.length_append]
    exact Nat.le_add_right _ _

/-- Settles O44. -/
theorem releasedReadsEnterTheQueue : Obligations.ReleasedReadsEnterTheQueue := by
  refine ⟨fun s before h rest o hs hb ho hf => ?_, fun s t => ⟨fun hle => ?_, fun hlt => ?_, ?_⟩⟩
  · exact congrArg (fun u => Host.Outcome.next u.drainLink)
      (enterReleased_append hs hb ho ((passThroughFree_iff s).mpr hf))
  · rw [← releasedCount_eq, ← releasedCount_eq] at hle
    exact settleReleases_of_le hle
  · rw [← releasedCount_eq, ← releasedCount_eq] at hlt
    exact settleReleases_eq hlt
  · intro old new hold _ _ f ht
    show t.holds.filter _ = _
    rw [ht, List.filter_append, List.filter_eq_self.mpr hold]

end Sys2Proof.Machine
end

-- ==== What is due ====
section
/-! PROOFS. What an event owes is made once (R100, R122, R129): neither a grant nor an arrival at the open port owes another
entry, and so everything that happens leaves the port settled. With it the pins' rows and the tick. -/

namespace Sys2Proof.Machine

open Sys2Proof Sys2Proof.Config

/-! ## Grants leave what acceptance looks at -/

/-- What acceptance and the entry of released reads look at beside the link (R100, R122). -/
def State.admission (s : State) : UnitState × Nat × List HoldPlace :=
  (s.control.unit, s.port.passThrough.length, s.holds)

/-- The released reads that may enter have entered (R100). -/
abbrev State.entriesSettled (s : State) : Prop := s.releasedWaits = false ∨ s.passThroughFree = false

theorem length_issueHead (es : List PassEntry) : (issueHead es).length = es.length := by
  induction es with
  | nil => rfl
  | cons e rest ih =>
    unfold issueHead
    split
    · rw [List.length_cons, List.length_cons, ih]
    · rfl

theorem admission_grantTo (s : State) (x : Source) : (s.grantTo x).admission = s.admission := by
  cases x with
  | passThrough =>
    simp only [State.grantTo, State.grantPassThrough]
    split
    · simp only [State.admission, State.issue, State.modPort, length_issueHead]
    · rfl
  | verify =>
    simp only [State.grantTo, State.grantVerify]
    split <;> rfl
  | report =>
    simp only [State.grantTo, State.grantReport]
    split <;> rfl
  | loader =>
    simp only [State.grantTo, State.grantLoader]
    split
    · split <;> rfl
    · rfl

theorem admission_grantAll (n : Nat) (s : State) : (State.grantAll n s).admission = s.admission := by
  induction n generalizing s with
  | zero => rfl
  | succ n ih =>
    unfold State.grantAll
    split
    · rw [ih, admission_grantTo]
    · rfl

theorem admission_grantDue (s : State) : s.grantDue.admission = s.admission := admission_grantAll _ s

theorem admission_grant (s : State) : s.grant.admission = s.admission := by
  unfold State.grant
  split
  · exact admission_grantTo s _
  · rfl

section

variable {s t : State}

theorem holds_of_admission (h : t.admission = s.admission) : t.holds = s.holds := congrArg (·.2.2) h

theorem passThrough_of_admission (h : t.admission = s.admission) :
    t.port.passThrough.length = s.port.passThrough.length := congrArg (·.2.1) h

theorem releasedCount_of_admission (h : t.admission = s.admission) : t.releasedCount = s.releasedCount := by
  rw [State.releasedCount, holds_of_admission h, State.releasedCount]

theorem accepts_of_admission (h : t.admission = s.admission) : t.accepts = s.accepts :=
  accepts_congr (congrArg (·.1) h) (passThrough_of_admission h) (releasedCount_of_admission h)

theorem linkSettled_of_admission (hl : t.link = s.link) (h : t.admission = s.admission) (hs : s.linkSettled) :
    t.linkSettled := by
  rwa [State.linkSettled, hl, accepts_of_admission h]

theorem entriesSettled_of_admission (h : t.admission = s.admission) (hs : s.entriesSettled) : t.entriesSettled := by
  rwa [State.entriesSettled, releasedWaits_congr (releasedCount_of_admission h),
    passThroughFree_congr (passThrough_of_admission h)]

/-! ## Arrivals at the open port leave no entry due -/

theorem releasedCount_of_accepts (h : s.accepts = true) : s.releasedCount = 0 := by
  simp only [State.accepts, Bool.and_eq_true, Bool.not_eq_true'] at h
  exact (releasedWaits_eq_false_iff s).mp h.2

/-- Where no released read waits, those that an event releases enter at its end as far as they may (R100). -/
theorem entriesSettled_settleReleases (t : State) (h : s.releasedCount = 0) : (s.settleReleases t).entriesSettled := by
  unfold State.settleReleases
  split
  · exact enterReleases_settles _
  · next none =>
    exact .inl ((releasedWaits_eq_false_iff t).mpr (by omega))

theorem entriesSettled_arrive (x : Transaction) (h : s.accepts = true) : (s.arrive x).entriesSettled := by
  have noneWaits : s.grantDue.releasedCount = 0 := by
    rw [releasedCount_of_admission (admission_grantDue s), releasedCount_of_accepts h]
  rw [State.arrive]
  exact entriesSettled_settleReleases _ noneWaits

theorem entriesSettled_drain (n : Nat) (h : s.entriesSettled) : (State.drain n s).entriesSettled := by
  induction n generalizing s with
  | zero => exact h
  | succ n ih =>
    unfold State.drain
    split
    · exact h
    · split
      · next accepting => exact ih (entriesSettled_arrive _ accepting)
      · exact h

theorem entriesSettled_drainLink (h : s.entriesSettled) : s.drainLink.entriesSettled := entriesSettled_drain _ h

/-! ## What is due is made once -/

theorem entriesDue_settled (hl : s.linkSettled) (he : s.entriesSettled) : s.entriesDue = s := by
  rw [State.entriesDue, enterReleases_none s he, drainLink_settled s hl]

theorem linkSettled_entriesDue (s : State) : s.entriesDue.linkSettled := drainLink_settles _

theorem entriesSettled_entriesDue (s : State) : s.entriesDue.entriesSettled :=
  entriesSettled_drainLink (enterReleases_settles s)

/-- Once what is due is made, nothing is due (R100, R122, R129). -/
theorem nothingDue_due (s : State) : s.due.nothingDue :=
  ⟨linkSettled_of_admission (link_of_outer (outer_grantDue _)) (admission_grantDue _) (linkSettled_entriesDue s),
    grantee_grantDue _, entriesSettled_of_admission (admission_grantDue _) (entriesSettled_entriesDue s)⟩

theorem due_due (s : State) : s.due.due = s.due := due_none _ (nothingDue_due s)

theorem pins_of_kept (h : t.kept = s.kept) : t.pins = s.pins := congrArg (·.1) h

theorem now_of_kept (h : t.kept = s.kept) : t.timeBase.now = s.timeBase.now := congrArg (·.2.1) h

theorem pending_of_kept (h : t.kept = s.kept) : t.pending = s.pending := congrArg (·.2.2) h

theorem pins_due (s : State) : s.due.pins = s.pins := pins_of_kept (kept_due s)

theorem now_due (s : State) : s.due.timeBase.now = s.timeBase.now := now_of_kept (kept_due s)

theorem pending_due (s : State) : s.due.pending = s.pending := pending_of_kept (kept_due s)

/-- One grant more than leaves none due is no grant (R129). -/
theorem grantAll_succ (n : Nat) (h : (State.grantAll n s).grantee = none) : State.grantAll (n + 1) s = State.grantAll n s := by
  induction n generalizing s with
  | zero => exact grantAll_none 1 s h
  | succ n ih =>
    cases hg : s.grantee with
    | none => rw [grantAll_none _ s hg, grantAll_none _ s hg]
    | some x =>
      have first (k : Nat) : State.grantAll (k + 1) s = State.grantAll k (s.grantTo x) := by rw [State.grantAll, hg]
      rw [first] at h
      rw [first, ih h, ← first]

/-- A grant made by its own command is the first of those that are due (R129). -/
theorem grantDue_grant (s : State) : s.grant.grantDue = s.grantDue := by
  unfold State.grant
  split
  · next x hg =>
    calc (s.grantTo x).grantDue = State.grantAll (inFlightDepth + 1) s := by
          rw [State.grantAll, hg]
          rfl
      _ = s.grantDue := grantAll_succ _ (grantee_grantDue s)
  · rfl

theorem takeReleased_none {hs : List HoldPlace} (h : ∀ x ∈ hs, x.released = none) : takeReleased hs = none := by
  induction hs with
  | nil => rfl
  | cons x hs ih =>
    rw [takeReleased, h x List.mem_cons_self, ih fun y hy => h y (List.mem_cons_of_mem x hy)]

theorem enterReleased_none (h : s.entriesSettled) : s.enterReleased = s := by
  rcases h with unreleased | full
  · have waiting : ∀ x ∈ s.holds, x.released = none := fun x hx => by
      simpa [HoldPlace.waiting] using List.any_eq_false.mp unreleased x hx
    rw [State.enterReleased, takeReleased_none waiting]
  · unfold State.enterReleased
    split
    · exact if_neg (Bool.eq_false_iff.mp full)
    · rfl

/-- An entry made by its own command is the first of those that are due (R100). -/
theorem enterReleases_enterReleased (s : State) : s.enterReleased.enterReleases = s.enterReleases := by
  by_cases h : s.releasedWaits = true ∧ s.passThroughFree = true
  · obtain ⟨waits, free⟩ := h
    rw [State.enterReleases, State.enterReleases, ← holds_enterReleased s waits free, State.enterAllReleased, waits, free]
    rfl
  · have settled : s.entriesSettled := by
      rw [not_and_or, Bool.not_eq_true, Bool.not_eq_true] at h
      exact h
    rw [enterReleased_none settled]

/-- After an entry of its own the port accepts what the last entry would let it (R100, R122). -/
theorem entriesDue_enterReleased (s : State) : s.enterReleased.drainLink.entriesDue = s.entriesDue := by
  by_cases h : s.enterReleased.releasedWaits = true
  · have closed : s.enterReleased.accepts = false := by simp [State.accepts, h]
    rw [drainLink_settled _ (.inr closed), State.entriesDue, enterReleases_enterReleased, State.entriesDue]
  · have settled : s.enterReleased.entriesSettled := .inl (Bool.eq_false_iff.mpr h)
    rw [entriesDue_settled (drainLink_settles _) (entriesSettled_drainLink settled), State.entriesDue,
      ← enterReleases_enterReleased, enterReleases_none _ settled]

end

/-! ## Every command but the two makes first what is due -/

theorem exec_due (i : Instr) (s : State) (hg : i ≠ .arbiterGrant) (he : i ≠ .releasedReadEntry) :
    exec i s = exec i s.due := by
  have presented (x : Transaction) : s.present x = s.due.present x := by rw [State.present, State.present, due_due]
  have event (f : State → State) : s.event f = s.due.event f := by rw [State.event, State.event, due_due]
  have tick : s.tick = s.due.tick := by rw [State.tick, State.tick, due_due, pins_due]
  cases i with
  | arbiterGrant => exact absurd rfl hg
  | releasedReadEntry => exact absurd rfl he
  | deviceReset => exact congrArg (fun u : State => Host.Outcome.next u.deviceReset) (due_due s).symm
  | resetRelease ctlsel => exact congrArg (fun u : State => Host.Outcome.next (u.release ctlsel)) (due_due s).symm
  | wenFall => exact congrArg (fun u : State => Host.Outcome.next (u.modPins fun p => { p with wen := false })) (due_due s).symm
  | wenRise =>
    exact congrArg (fun u : State => Host.Outcome.next ((u.modPins fun p => { p with wen := true }).setEpisode false))
      (due_due s).symm
  | timeBaseTick => exact congrArg Host.Outcome.next tick
  | passThroughCompletion _ | trackedWriteCompletion _ | verifyReadCompletion _ | reportWriteCompletion _
  | loaderReadCompletion _ | loaderWriteCompletion _ | quietTimerExpiry _ | holdDeadline _ _ | periodTimerExpiry =>
    exact congrArg Host.Outcome.next (event _)
  | _ => exact congrArg Host.Outcome.next (presented _)

/-- Settles O5: what is due leaves nothing due, and so is made once; a grant or an entry of its own is the first of those that
were due. -/
theorem whatIsDueComesFirst : Obligations.WhatIsDueComesFirst := by
  intro s
  refine ⟨fun i hg he => exec_due i s hg he, nothingDue_due s, fun t h => ?_, fun t h => ?_⟩
  · cases h
    have settled : s.entriesDue.grant.entriesDue = s.entriesDue.grant :=
      entriesDue_settled
        (linkSettled_of_admission (link_of_outer (outer_grant _)) (admission_grant _) (linkSettled_entriesDue s))
        (entriesSettled_of_admission (admission_grant _) (entriesSettled_entriesDue s))
    rw [State.due, settled, grantDue_grant, State.due]
  · cases h
    rw [State.due, entriesDue_enterReleased, State.due]

/-! ## The pins' rows -/

/-- Settles O12. -/
theorem pinsAndReset : Obligations.PinsAndReset := by
  intro s
  refine ⟨?_, fun ctlsel low => ?_, ?_, ?_⟩
  · show Host.Outcome.next s.due.deviceReset = _
    rw [State.deviceReset, pins_due, pending_due]
  · show Host.Outcome.next (s.due.release ctlsel) = _
    rw [State.release, pins_due, if_neg (by rw [low]; exact nofun), ← pins_due s]
    rfl
  · rw [← pins_due s]
    rfl
  · rw [← pins_due s]
    rfl

/-! ## The tick -/

/-- An event without an effect, where nothing is due, changes nothing. -/
theorem event_id {s : State} {f : State → State} (hd : s.nothingDue) (hf : f s = s) : s.event f = s := by
  rw [event_nothingDue s f hd, hf, settleReleases_none s s rfl, drainLink_settled s hd.1]

/-- A microsecond at whose count nothing expires owes nothing (R160). -/
theorem expireDue_quiet {s : State} (hd : s.nothingDue) (hh : s.holds.any s.holdDue = false)
    (hq : ∀ r : RingId, s.quietDue r = false) (hp : s.periodDue = false) : s.expireDue = s := by
  have holds (n : Nat) : State.expireDueHolds n s = s := by
    cases n with
    | zero => rfl
    | succ n => exact if_neg (Bool.eq_false_iff.mp hh)
  have quiet (r : RingId) : s.event (State.expireQuietIfDue r) = s := event_id hd (if_neg (Bool.eq_false_iff.mp (hq r)))
  have period : s.event State.expirePeriodIfDue = s := event_id hd (if_neg (Bool.eq_false_iff.mp hp))
  have quiets (l : List RingId) : l.foldl (fun s r => s.event (State.expireQuietIfDue r)) s = s := by
    induction l with
    | nil => rfl
    | cons r l ih => rw [List.foldl_cons, quiet, ih]
  rw [State.expireDue, holds, quiets, period]

/-- The first entry that is due is the due entry of its own read. -/
theorem expireHoldOf_first {s : State} {h : HoldPlace} {rest : List HoldPlace} (hf : s.holds.filter s.holdDue = h :: rest) :
    s.expireHoldOf h.read.initiator h.read.tag = s.expireFirstHold := by
  have first : s.holds.find? s.holdDue = some h := by rw [← List.head?_filter, hf, List.head?_cons]
  have own : s.holds.find? (fun x => s.holdDue x && x.read.initiator == h.read.initiator && x.read.tag == h.read.tag) =
      some h := by
    have split : (fun x => s.holdDue x && x.read.initiator == h.read.initiator && x.read.tag == h.read.tag) =
        fun x => (x.read.initiator == h.read.initiator && x.read.tag == h.read.tag) && s.holdDue x := by
      funext x
      rw [Bool.and_assoc, Bool.and_comm]
    rw [split, ← List.head?_filter, ← List.filter_filter, hf, List.filter_cons_of_pos (by simp), List.head?_cons]
  rw [State.expireHoldOf, own, State.expireFirstHold, first]

/-- A tick at which holds are due takes the first of them, makes what that owes, and goes on as the tick after it (R102, log
entry 11). -/
theorem tick_firstHold {s u : State} {h : HoldPlace} {rest : List HoldPlace} (high : s.pins.resetN = true)
    (hd : s.nothingDue) (hf : s.holds.filter s.holdDue = h :: rest)
    (hu : s.event (State.expireHoldOf h.read.initiator h.read.tag) = u)
    (hr : u.due.holds.filter u.due.holdDue = rest) : s.tick = u.tick := by
  have pins : u.pins = s.pins := by
    rw [← hu]
    exact pins_of_kept (kept_event s _ (outer_expireHoldOf _ _ _))
  have some' : s.holds.any s.holdDue = true := by
    have : h ∈ s.holds.filter s.holdDue := by rw [hf]; exact List.mem_cons_self
    exact List.any_eq_true.mpr ⟨h, List.mem_filter.mp this⟩
  have firstEvent : s.event State.expireFirstHold = u := by
    rw [← hu, event_nothingDue s _ hd, event_nothingDue s _ hd, expireHoldOf_first hf]
  have holds : State.expireDueHolds s.dueHolds s = State.expireDueHolds u.due.dueHolds u.due := by
    rw [State.dueHolds, hf, State.dueHolds, hr, List.length_cons, State.expireDueHolds, if_pos some', firstEvent]
  rw [State.tick, State.tick, pins, if_pos high, if_pos high, due_none s hd, State.expireDue, holds, State.expireDue]

/-- Settles O13. -/
theorem tickAdvancesTheCount : Obligations.TickAdvancesTheCount := by
  intro s
  have ticked (high : s.pins.resetN = true) : s.tick = s.due.expireDue.due.modTimeBase TimeBase.advance := if_pos high
  refine ⟨fun high => ⟨s.tick, rfl, ?_⟩, fun high hd hh hq hp => ?_, fun high hd h rest u hf he hr => ?_, fun low => ?_⟩
  · have now : s.due.expireDue.due.timeBase.now = s.timeBase.now := by
      rw [now_due, now_of_kept (kept_expireDue s.due), now_due]
    rw [ticked high, timeBase_modTimeBase, ← now]
    exact ⟨rfl, rfl⟩
  · have noHold : s.holds.any s.holdDue = false := by
      rw [List.any_eq_false]
      simpa using hh
    have noQuiet (r : RingId) : s.quietDue r = false := by
      simpa using List.all_eq_true.mp hq r (mem_allRings r)
    show Host.Outcome.next s.tick = _
    rw [ticked high, due_none s hd, expireDue_quiet hd noHold noQuiet hp, due_none s hd]
    rfl
  · exact congrArg Host.Outcome.next (tick_firstHold high hd hf (Host.Outcome.next.inj he) hr)
  · exact congrArg Host.Outcome.next (if_neg (by rw [low]; exact nofun))

end Sys2Proof.Machine
end

-- ==== Stores and outstanding tags ====
section
/-! PROOFS. What an operation may do to the stores and to the outstanding tags. `Admits new s t`: from s to t no store but the
pass-through queue grows beyond its places, no request is issued, and at most the transactions `new` become outstanding. Each
lemma `Admits.op` carries the relation over one more operation; `new` is empty but where a transaction passes or is held. -/

namespace Sys2Proof.Machine

open Sys2Proof Sys2Proof.Config

/-- Initiator and tag of a held read. -/
def HoldPlace.pair (h : HoldPlace) : Initiator × Tag := (h.read.initiator, h.read.tag)

/-- Initiator and tag of a pass-through entry. -/
def PassEntry.pair (e : PassEntry) : Initiator × Tag := (e.initiator, e.tag)

/-- What a write makes outstanding when it passes. -/
abbrev ofWrite (w : WriteTx) : List (Initiator × Tag) := [(w.initiator, w.tag)]

/-- What a read makes outstanding when it passes or is held. -/
abbrev ofRead (t : ReadTx) : List (Initiator × Tag) := [(t.initiator, t.tag)]

/-- Initiator and tag of every outstanding transaction. -/
def State.pairs (s : State) : List (Initiator × Tag) :=
  s.holds.map HoldPlace.pair ++ s.port.passThrough.map PassEntry.pair

theorem tagsDistinct_iff (s : State) : s.tagsDistinct ↔ s.pairs.Nodup := Iff.rfl

/-- No store but the pass-through queue grows beyond its places, and at most `new` becomes outstanding. -/
structure Admits (new : List (Initiator × Tag)) (s t : State) : Prop where
  pairs : ∀ k, t.pairs.count k ≤ s.pairs.count k + new.count k
  passThrough : t.port.passThrough.length ≤ s.port.passThrough.length + new.length
  inFlight : t.port.inFlight.length ≤ s.port.inFlight.length
  holds : s.holds.length ≤ holdPlaces → t.holds.length ≤ holdPlaces
  queue : s.verify.queue.length ≤ verifyDepth → t.verify.queue.length ≤ verifyDepth
  outstanding : t.verify.outstanding ≤ s.verify.outstanding
  buffer : s.report.buffer.length ≤ recordBufferDepth → t.report.buffer.length ≤ recordBufferDepth

section

variable {new : List (Initiator × Tag)} {s t u : State}

theorem Admits.refl (new : List (Initiator × Tag)) (s : State) : Admits new s s :=
  ⟨fun _ => Nat.le_add_right _ _, Nat.le_add_right _ _, Nat.le_refl _, id, id, Nat.le_refl _, id⟩

theorem Admits.trans (h : Admits [] s t) (h' : Admits new t u) : Admits new s u where
  pairs k := (h'.pairs k).trans (Nat.add_le_add_right (h.pairs k) _)
  passThrough := h'.passThrough.trans (Nat.add_le_add_right h.passThrough _)
  inFlight := h'.inFlight.trans h.inFlight
  holds := h'.holds ∘ h.holds
  queue := h'.queue ∘ h.queue
  outstanding := h'.outstanding.trans h.outstanding
  buffer := h'.buffer ∘ h.buffer

theorem Admits.next (h : Admits new s t) (h' : Admits [] t u) : Admits new s u where
  pairs k := (h'.pairs k).trans (h.pairs k)
  passThrough := h'.passThrough.trans h.passThrough
  inFlight := h'.inFlight.trans h.inFlight
  holds := h'.holds ∘ h.holds
  queue := h'.queue ∘ h.queue
  outstanding := h'.outstanding.trans h.outstanding
  buffer := h'.buffer ∘ h.buffer

theorem Admits.weaken (h : Admits [] s t) : Admits new s t := h.trans (Admits.refl new t)

theorem Admits.ite {c : Prop} [Decidable c] {a b : State} (ha : Admits new s a) (hb : Admits new s b) :
    Admits new s (if c then a else b) := by
  split
  · exact ha
  · exact hb

theorem Admits.foldl {α : Type} (g : State → α → State) (hg : ∀ u a, Admits new s u → Admits new s (g u a)) (l : List α)
    (h : Admits new s t) : Admits new s (l.foldl g t) := by
  induction l generalizing t with
  | nil => exact h
  | cons a l ih => exact ih (hg t a h)

/-! ## The blocks -/

/-- A change that leaves the stores but the Hold Queue, of which it keeps some places. -/
theorem Admits.fewerHolds (h : Admits new s t) (hh : (u.holds.map HoldPlace.pair).Subperm (t.holds.map HoldPlace.pair))
    (hp : u.port = t.port) (hv : u.verify = t.verify) (hb : u.report.buffer = t.report.buffer) : Admits new s u := by
  have fewer : u.holds.length ≤ t.holds.length := by simpa only [List.length_map] using hh.length_le
  refine h.next ⟨fun k => ?_, by rw [hp]; exact Nat.le_refl _, by rw [hp], fun ht => fewer.trans ht, by rw [hv]; exact id,
    by rw [hv], by rw [hb]; exact id⟩
  rw [State.pairs, State.pairs, hp, List.count_append, List.count_append]
  exact Nat.add_le_add_right (hh.count_le k) _

/-- A change outside the stores. -/
theorem Admits.outside (h : Admits new s t) (hh : u.holds = t.holds) (hp : u.port = t.port) (hv : u.verify = t.verify)
    (hb : u.report.buffer = t.report.buffer) : Admits new s u :=
  h.fewerHolds (by rw [hh]) hp hv hb

theorem Admits.modRing (h : Admits new s t) (r f) : Admits new s (t.modRing r f) := h.outside rfl rfl rfl rfl
theorem Admits.modTracking (h : Admits new s t) (r f) : Admits new s (t.modTracking r f) := h.outside rfl rfl rfl rfl
theorem Admits.modSlot (h : Admits new s t) (r k f) : Admits new s (t.modSlot r k f) := h.outside rfl rfl rfl rfl
theorem Admits.modControl (h : Admits new s t) (f) : Admits new s (t.modControl f) := h.outside rfl rfl rfl rfl
theorem Admits.modLoad (h : Admits new s t) (f) : Admits new s (t.modLoad f) := h.outside rfl rfl rfl rfl
theorem Admits.modLink (h : Admits new s t) (f) : Admits new s (t.modLink f) := h.outside rfl rfl rfl rfl
theorem Admits.modPins (h : Admits new s t) (f) : Admits new s (t.modPins f) := h.outside rfl rfl rfl rfl
theorem Admits.modTimeBase (h : Admits new s t) (f) : Admits new s (t.modTimeBase f) := h.outside rfl rfl rfl rfl
theorem Admits.setEpisode (h : Admits new s t) (b) : Admits new s (t.setEpisode b) := h.outside rfl rfl rfl rfl
theorem Admits.respond (h : Admits new s t) (i g c d) : Admits new s (t.respond i g c d) := h.outside rfl rfl rfl rfl
theorem Admits.refuse (h : Admits new s t) (w) : Admits new s (t.refuse w) := h.outside rfl rfl rfl rfl
theorem Admits.answer (h : Admits new s t) (c x) : Admits new s (t.answer c x) := h.outside rfl rfl rfl rfl
theorem Admits.count (h : Admits new s t) (r c) : Admits new s (t.count r c) := h.outside rfl rfl rfl rfl
theorem Admits.raisePeak (h : Admits new s t) (r c v) : Admits new s (t.raisePeak r c v) := h.outside rfl rfl rfl rfl
theorem Admits.occupancyUp (h : Admits new s t) (r) : Admits new s (t.occupancyUp r) := h.outside rfl rfl rfl rfl
theorem Admits.occupancyDown (h : Admits new s t) (r) : Admits new s (t.occupancyDown r) := h.outside rfl rfl rfl rfl

theorem Admits.withPool (h : Admits new s t) (v) : Admits new s { t with pool := v } := h.outside rfl rfl rfl rfl

theorem Admits.modBerth (h : Admits new s t) (p f) : Admits new s (t.modBerth p f) :=
  h.outside (holds_modBerth t p f) (port_modBerth t p f) (verify_modBerth t p f) (by rw [report_modBerth])

/-- A change of the Report Engine that adds no record. -/
theorem Admits.modReport (h : Admits new s t) (f : ReportEngine → ReportEngine)
    (hf : ∀ e, (f e).buffer.length ≤ e.buffer.length := by exact fun _ => Nat.le_refl _) : Admits new s (t.modReport f) :=
  h.next ⟨fun _ => Nat.le_refl _, Nat.le_refl _, Nat.le_refl _, id, id, Nat.le_refl _, fun ht => (hf _).trans ht⟩

theorem Admits.offer (h : Admits new s t) (c) : Admits new s (t.offer c) := by
  refine h.next ⟨fun k => ?_, by rw [port_offer]; exact Nat.le_refl _, by rw [port_offer], by rw [holds_offer]; exact id,
    by rw [verify_offer]; exact id, by rw [verify_offer], buffer_offer_le t c⟩
  rw [State.pairs, State.pairs, holds_offer, port_offer]
  exact Nat.le_add_right _ _

theorem Admits.raise (h : Admits new s t) (c) : Admits new s (t.raise c) := h.offer _

theorem Admits.refuseInWindow (h : Admits new s t) (r c w) : Admits new s (t.refuseInWindow r c w) :=
  ((h.refuse w).raise c).count r _

/-- A change of the Verify Engine that adds no job and issues no read. -/
theorem Admits.modVerify (h : Admits new s t) (f : VerifyEngine → VerifyEngine)
    (hq : ∀ e, (f e).queue.length ≤ e.queue.length := by exact fun _ => Nat.le_refl _)
    (ho : ∀ e, (f e).outstanding ≤ e.outstanding := by exact fun _ => Nat.le_refl _) : Admits new s (t.modVerify f) :=
  h.next ⟨fun _ => Nat.le_refl _, Nat.le_refl _, Nat.le_refl _, id, fun ht => (hq _).trans ht, ho _, id⟩

/-- A transaction that passes becomes outstanding, and takes one entry (R126). -/
theorem Admits.pushPass (h : Admits [] s t) (e : PassEntry) : Admits [e.pair] s (t.pushPass e) := by
  refine h.trans ⟨fun k => ?_, ?_, Nat.le_refl _, id, id, Nat.le_refl _, id⟩
  · rw [State.pairs, State.pairs, holds_pushPass, passThrough_pushPass, List.map_append, ← List.append_assoc,
      List.count_append, List.map_singleton]
  · rw [passThrough_pushPass, List.length_append]
    exact Nat.le_refl _

theorem Admits.passRead (h : Admits [] s t) (o x) : Admits (ofRead x) s (t.passRead o x) := by
  exact h.pushPass (readEntry x o)

theorem Admits.passWrite (h : Admits [] s t) (k w) : Admits (ofWrite w) s (t.passWrite k w) := by
  exact h.pushPass (writeEntry w k)

/-- A completed request leaves the in-flight list (R128). -/
theorem Admits.retire (h : Admits new s t) : Admits new s t.retire :=
  h.next ⟨fun _ => Nat.le_refl _, Nat.le_refl _, by
    show t.port.inFlight.tail.length ≤ _
    rw [List.length_tail]
    exact Nat.sub_le _ _, id, id, Nat.le_refl _, id⟩

/-- A completed transaction is outstanding no more (R126). -/
theorem Admits.freeEntry (h : Admits new s t) (e) : Admits new s (t.freeEntry e) := by
  have kept : (t.port.passThrough.erase e).Sublist t.port.passThrough := List.erase_sublist
  refine h.next ⟨fun k => ?_, kept.length_le, Nat.le_refl _, id, id, Nat.le_refl _, id⟩
  exact ((kept.map PassEntry.pair).append_left _).count_le k

/-! ## The Hold Queue -/

theorem Admits.releaseHolds (h : Admits new s t) (p o) : Admits new s (t.releaseHolds p o) := by
  obtain ⟨c, hc⟩ := releaseHolds_spec t p o
  have same : (t.holds.map fun x => if x.waiting && x.berth == p then { x with released := some o } else x).map
      HoldPlace.pair = t.holds.map HoldPlace.pair := by
    rw [List.map_map]
    refine List.map_congr_left fun x _ => ?_
    rw [Function.comp_apply]
    split <;> rfl
  rw [hc]
  exact h.fewerHolds (List.Perm.of_eq same).subperm rfl rfl rfl

theorem Admits.endHolds (h : Admits new s t) (measured which) : Admits new s (t.endHolds measured which) := by
  obtain ⟨c, hc, -⟩ := endHolds_spec t measured which
  rw [hc]
  exact h.fewerHolds (List.filter_sublist.map _).subperm rfl rfl rfl

/-- A read admitted to the Hold Queue becomes outstanding, and takes one of its sixteen places (R97). -/
theorem Admits.offerHold (h : Admits [] s t) (r index x) : Admits (ofRead x) s (t.offerHold r index x) := by
  unfold State.offerHold
  split
  · next room =>
    refine Admits.count ?_ r _
    refine h.trans ⟨fun k => ?_, Nat.le_add_right _ _, Nat.le_refl _, fun _ => ?_, id, Nat.le_refl _, id⟩
    · rw [State.pairs, State.pairs, holds_modHolds, port_modHolds, List.map_append, List.map_singleton]
      simp only [List.count_append, HoldPlace.pair, ofRead]
      omega
    · rw [holds_modHolds, List.length_append]
      exact room
  · exact ((h.answer _ x).raise _).weaken

theorem Admits.expireHold (h : Admits new s t) (x) : Admits new s (t.expireHold x) := by
  have ended : Admits new s ((t.modHolds fun hs => hs.erase x).endHold true x) :=
    h.fewerHolds (List.erase_sublist.map _).subperm rfl rfl rfl
  exact (ended.raise _).count _ _

/-! ## Release, publication and damage -/

theorem Admits.freeBerth (h : Admits new s t) (r index) : Admits new s (t.freeBerth r index) :=
  (h.modBerth _ _).occupancyDown r

theorem Admits.formPending (h : Admits new s t) (r index) : Admits new s (t.formPending r index) :=
  .ite (h.freeBerth r index) (h.modBerth _ _)

theorem Admits.releaseSlot (h : Admits new s t) (r k index) : Admits new s (t.releaseSlot r k index) :=
  .ite (.ite (h.freeBerth r index) (h.modBerth _ _)) h

theorem Admits.releaseSlotWhere (h : Admits new s t) (r k which) : Admits new s (t.releaseSlotWhere r k which) :=
  .foldl _ (fun _ i hu => .ite (hu.releaseSlot r k i) hu) _ h

theorem Admits.publish (h : Admits new s t) (r index) : Admits new s (t.publish r index) :=
  ((h.modBerth _ _).formPending r index).releaseHolds _ _

theorem Admits.publishStaged (h : Admits new s t) (r index) : Admits new s (t.publishStaged r index) :=
  .ite (h.publish r index) h

theorem Admits.publishGroups (h : Admits new s t) (r bases) : Admits new s (t.publishGroups r bases) :=
  .foldl _ (fun _ i hu => hu.publishStaged r i) _ h

theorem Admits.publishAllStaged (h : Admits new s t) (r) : Admits new s (t.publishAllStaged r) := h.publishGroups r _

theorem Admits.groupTest (h : Admits new s t) (r) : Admits new s (t.groupTest r) := .ite (h.publishGroups r _) h

theorem Admits.publicationStep (h : Admits new s t) (r index) : Admits new s (t.publicationStep r index) :=
  .ite ((h.modBerth _ _).groupTest r) (h.publish r index)

/-- A job that leaves the verify queue (step 3 of R40, R119). -/
theorem Admits.removeJob (h : Admits new s t) (p) : Admits new s (t.modVerify (VerifyEngine.remove p)) :=
  h.modVerify _ fun _ => List.length_filter_le _ _

theorem length_beginTry (e : VerifyEngine) : e.beginTry.queue.length = e.queue.length := by
  unfold VerifyEngine.beginTry
  split
  · rfl
  · next hq => rw [hq]; rfl

theorem outstanding_beginTry (e : VerifyEngine) : e.beginTry.outstanding = e.outstanding := by
  unfold VerifyEngine.beginTry
  split <;> rfl

theorem length_activate (e : VerifyEngine) : e.activate.queue.length = e.queue.length := by
  unfold VerifyEngine.activate
  split
  · rfl
  · split
    · exact length_beginTry e
    · rfl

theorem Admits.beginTry (h : Admits new s t) : Admits new s (t.modVerify VerifyEngine.beginTry) :=
  h.modVerify _ (fun e => (length_beginTry e).le) fun e => (outstanding_beginTry e).le

theorem Admits.activate (h : Admits new s t) : Admits new s (t.modVerify VerifyEngine.activate) :=
  h.modVerify _ (fun e => (length_activate e).le) fun e => (outstanding_activate e).le

theorem Admits.damage (h : Admits new s t) (r index cause) : Admits new s (t.damage r index cause) := by
  have marked := fun f c => ((h.modBerth (t.poolIndex r index) f).raise c).count r .berthsDamaged
  exact .ite h (Admits.groupTest (Admits.releaseHolds (Admits.formPending (.ite ((marked _ _).removeJob _) (marked _ _)) r index)
    _ _) r)

theorem Admits.abandonCurrent (h : Admits new s t) (r) : Admits new s (t.abandonCurrent r) := by
  unfold State.abandonCurrent
  split
  · exact h.damage r _ _
  · exact h

/-! ## The Ring Tracker and the group unit -/

theorem Admits.loseLock (h : Admits new s t) (r cause) : Admits new s (t.loseLock r cause) :=
  ((((((((h.modTracking r _).abandonCurrent r).publishAllStaged r).modTracking r _).endHolds true _).modTracking r _).raise
    _).count r _)

theorem Admits.acquireLock (h : Admits new s t) (r b q i) : Admits new s (t.acquireLock r b q i) := by
  have locked := fun f c => (h.modTracking r f).raise c
  unfold State.acquireLock
  dsimp only
  split
  · exact locked _ _
  · exact .ite (locked _ _) ((locked _ _).raise _)

theorem Admits.debounceCode (h : Admits new s t) (r index k) : Admits new s (t.debounceCode r index k) :=
  .ite (h.modTracking r _) (.ite ((h.modTracking r _).raise _) (h.modTracking r _))

theorem Admits.restartQuiet (h : Admits new s t) (r) : Admits new s (t.restartQuiet r) := .ite (h.modTracking r _) h

theorem Admits.expireQuiet (h : Admits new s t) (r) : Admits new s (t.expireQuiet r) := by
  have flagged := fun f c f' => ((h.modTracking r f).raise c).modTracking r f'
  exact .ite (h.modTracking r _) (.ite ((flagged _ _ _).abandonCurrent r) (flagged _ _ _))

theorem Admits.faultHold (h : Admits new s t) (r cause index i) : Admits new s (t.faultHold r cause index i) :=
  .ite ((((((h.modRing r _).abandonCurrent r).publishAllStaged r).endHolds true _).modTracking r _).raise _) h

theorem Admits.lockGroup (h : Admits new s t) (r x) : Admits new s (t.lockGroup r x) := (h.modTracking r _).raise _

theorem Admits.loseGroup (h : Admits new s t) (r x) : Admits new s (t.loseGroup r x) :=
  ((h.publishAllStaged r).modTracking r _).raise _

theorem Admits.examineSearch (h : Admits new s t) (r x) : Admits new s (t.examineSearch r x) := by
  have counted := fun f => h.modTracking r f
  exact .ite ((counted _).lockGroup r x)
    (.ite ((((counted _).modTracking r _).modTracking r _).raise _) ((counted _).modTracking r _))

theorem Admits.examineUngrouped (h : Admits new s t) (r x) : Admits new s (t.examineUngrouped r x) :=
  .ite (.ite (h.lockGroup r x) (h.modTracking r _)) h

theorem Admits.examineLocked (h : Admits new s t) (r x) : Admits new s (t.examineLocked r x) := by
  have erred := fun f => (h.count r .groupErrors).modTracking r f
  exact .ite (h.modTracking r _) (.ite ((erred _).loseGroup r x) (erred _))

theorem Admits.examine (h : Admits new s t) (r x) : Admits new s (t.examine r x) := by
  unfold State.examine
  dsimp only
  split
  · split
    · exact h
    · exact h.examineSearch r x
    · exact h.examineLocked r x
    · exact h.examineUngrouped r x
  · exact h

/-! ## Seals and claims -/

theorem Admits.seal (h : Admits new s t) (r index) : Admits new s (t.seal r index) := by
  have failed : Admits new s (((t.count r .checkErrors).damage r index .checkError).clearQuietFlag r) :=
    ((h.count r _).damage r index _).modTracking r _
  exact .ite ((h.damage r index _).modTracking r _)
    (.ite (.ite (failed.loseLock r _) failed)
      ((((h.modBerth _ _).count r _).modTracking r _).debounceCode r index _))

theorem Admits.sealIfComplete (h : Admits new s t) (r index) : Admits new s (t.sealIfComplete r index) := by
  unfold State.sealIfComplete
  dsimp only
  split
  · exact .ite (h.seal r index) h
  · exact h

theorem Admits.judgeClaim (h : Admits new s t) (r c) : Admits new s (t.judgeClaim r c) := by
  unfold State.judgeClaim
  split
  · exact h.damage r _ _
  · exact .ite (h.damage r _ _) (h.sealIfComplete r _)

/-- A tracked write passes (R39). -/
theorem Admits.trackWrite (h : Admits [] s t) (r index offset w) : Admits (ofWrite w) s (t.trackWrite r index offset w) :=
  (((h.modBerth _ _).modRing r _).passWrite _ w).restartQuiet r

theorem Admits.claim (h : Admits [] s t) (r c w) : Admits (ofWrite w) s (t.claim r c w) := by
  have fielded := fun p f g => ((h.abandonCurrent r).modBerth p f).modRing r g
  exact ((Admits.trackWrite (.ite (fielded _ _ _) ((fielded _ _ _).occupancyUp r)) r c.berth 0 w).judgeClaim r c).groupTest r

theorem Admits.reclaim (h : Admits new s t) (r index i) : Admits new s (t.reclaim r index i) := by
  have ended := fun f which => (h.modRing r f).endHolds true which
  refine Admits.modBerth (Admits.count (Admits.raise (.ite (Admits.modVerify (ended _ _) _ (fun e => ?_) fun e => ?_)
    (ended _ _)) _) r _) _ _
  · rw [length_activate]
    exact List.length_filter_le _ _
  · rw [outstanding_activate]
    exact Nat.le_refl _

theorem Admits.overrun (h : Admits [] s t) (r index w) (judgment : Bool → State → State)
    (hj : ∀ b u, Admits [] s u → Admits (ofWrite w) s (judgment b u)) : Admits (ofWrite w) s (t.overrun r index w judgment) := by
  refine .ite (hj false t h) ?_
  split
  · exact ((h.count r _).refuseInWindow r _ w).weaken
  · exact hj true _ ((h.count r _).reclaim r index w.initiator)

/-! ## Starts -/

theorem Admits.writeInHunt (h : Admits [] s t) (r index w) : Admits (ofWrite w) s (t.writeInHunt r index w) :=
  .ite (h.passWrite none w) (h.refuseInWindow r _ w).weaken

theorem Admits.startInHunt (h : Admits [] s t) (r index w) : Admits (ofWrite w) s (t.startInHunt r index w) := by
  unfold State.startInHunt
  split
  · exact h.overrun r index w _ fun b u hu => (hu.modTracking r _).claim r _ w
  · exact h.writeInHunt r index w

theorem Admits.confirmingStart (h : Admits [] s t) (r index l w b) : Admits (ofWrite w) s (t.confirmingStart r index l w b) := by
  have progressed := fun f => h.modTracking r f
  exact .ite ((((progressed _).acquireLock r _ _ _).claim r _ w).examine r _) ((progressed _).claim r _ w)

theorem Admits.startInConfirm (h : Admits [] s t) (r index w) : Admits (ofWrite w) s (t.startInConfirm r index w) := by
  have hunting : Admits (ofWrite w) s ((t.returnToHunt r).startInHunt r index w) :=
    Admits.startInHunt ((h.abandonCurrent r).modTracking r _) r index w
  unfold State.startInConfirm
  split
  · exact .ite (h.overrun r index w _ fun b u hu => hu.confirmingStart r index _ w b) hunting
  · exact hunting

theorem Admits.loseLockAtThird (h : Admits new s t) (r) : Admits new s (t.loseLockAtThird r) := .ite (h.loseLock r _) h

theorem Admits.goodStart (h : Admits [] s t) (r index l w b) : Admits (ofWrite w) s (t.goodStart r index l w b) := by
  unfold State.goodStart
  exact ((h.modTracking r _).claim r _ w).examine r _

theorem Admits.breakStart (h : Admits [] s t) (r index l w b) : Admits (ofWrite w) s (t.breakStart r index l w b) := by
  unfold State.breakStart
  exact (((((h.modTracking r _).raise _).count r _).claim r _ w).examine r _).loseLockAtThird r

theorem Admits.leadErrorStart (h : Admits [] s t) (r index w b) : Admits (ofWrite w) s (t.leadErrorStart r index w b) := by
  unfold State.leadErrorStart
  exact ((((h.modTracking r _).count r _).claim r _ w).examine r _).loseLockAtThird r

theorem Admits.slip (h : Admits [] s t) (r index w) : Admits (ofWrite w) s (t.slip r index w) := by
  unfold State.slip
  exact ((((h.passWrite none w).modTracking r _).raise _).count r _).loseLockAtThird r

theorem Admits.liveStart (h : Admits new s t) (r index w) : Admits new s (t.liveStart r index w) := by
  unfold State.liveStart
  exact ((h.modTracking r _).refuseInWindow r _ w).loseLockAtThird r

theorem Admits.startInLocked (h : Admits [] s t) (r index w) : Admits (ofWrite w) s (t.startInLocked r index w) := by
  unfold State.startInLocked
  dsimp only
  split
  · split
    · exact .ite (h.overrun r index w _ fun b u hu => hu.goodStart r index _ w b)
        (h.overrun r index w _ fun b u hu => hu.breakStart r index _ w b)
    · exact h.overrun r index w _ fun b u hu => hu.leadErrorStart r index w b
  · exact .ite (h.slip r index w) (h.liveStart r index w).weaken

theorem Admits.start (h : Admits [] s t) (r index w) : Admits (ofWrite w) s (t.start r index w) := by
  unfold State.start
  split
  · exact h.startInHunt r index w
  · exact h.startInConfirm r index w
  · exact h.startInLocked r index w

/-! ## Writes into a window -/

theorem Admits.continuation (h : Admits [] s t) (r index offset w) : Admits (ofWrite w) s (t.continuation r index offset w) := by
  have passed := h.passWrite none w
  have refused : Admits (ofWrite w) s (t.refuseLive r index w) := (h.refuseInWindow r _ w).weaken
  have current : Admits (ofWrite w) s (t.continueCurrent r index offset w) := by
    unfold State.continueCurrent
    dsimp only
    split
    · exact .ite ((h.trackWrite r index offset w).sealIfComplete r index) (passed.damage r index _)
    · exact passed
    · exact passed
    all_goals exact refused
  exact .ite (h.writeInHunt r index w) (.ite current (.ite refused passed))

theorem Admits.writeWindow (h : Admits [] s t) (r index offset w) : Admits (ofWrite w) s (t.writeWindow r index offset w) := by
  have held (c : Record) (cause : ReportKind) (i : Byte) :
      Admits (ofWrite w) s ((t.refuseInWindow r c w).faultHold r cause index i) :=
    ((h.refuseInWindow r c w).faultHold r cause index i).weaken
  unfold State.writeWindow
  split
  · exact h.passWrite none w
  · exact ((h.refuse w).count r _).weaken
  · exact .ite (.ite (held _ _ _) (.ite (h.start r index w) (h.continuation r index offset w))) (held _ _ _)

/-! ## The Consumer Roster -/

theorem Admits.holdOrRefuse (h : Admits [] s t) (r index x) : Admits (ofRead x) s (t.holdOrRefuse r index x) :=
  .ite (h.answer _ x).weaken (h.offerHold r index x)

theorem Admits.readActive (h : Admits [] s t) (r index x) : Admits (ofRead x) s (t.readActive r index x) := by
  have hold := h.holdOrRefuse r index x
  unfold State.readActive
  split
  · exact h.passRead _ x
  · exact h.passRead _ x
  · exact .ite (.ite hold (h.answer _ x).weaken) (h.passRead _ x)
  all_goals exact hold

theorem Admits.readHeld (h : Admits [] s t) (r index x) : Admits (ofRead x) s (t.readHeld r index x) := by
  unfold State.readHeld
  split
  · exact h.passRead _ x
  · exact h.passRead _ x
  all_goals exact (h.answer _ x).weaken

theorem Admits.readWindow (h : Admits [] s t) (r index x) : Admits (ofRead x) s (t.readWindow r index x) := by
  refine .ite (h.passRead _ x) ?_
  split
  · exact h.passRead _ x
  · split
    · exact h.passRead _ x
    · exact .ite (h.answer _ x).weaken (h.readActive r index x)
    · exact .ite (h.answer _ x).weaken (h.readHeld r index x)

theorem Admits.routeRead (h : Admits [] s t) (a x) : Admits (ofRead x) s (t.routeRead a x) := by
  cases a
  case window r index o => exact h.readWindow r index x
  all_goals exact h.passRead _ x

theorem Admits.takeCursor (h : Admits new s t) (r k c i) : Admits new s (t.takeCursor r k c i) := by
  refine Admits.releaseSlotWhere (Admits.modSlot ?_ r k _) r k _
  split
  · exact .ite (h.raise _) h
  · exact h

theorem Admits.writeCursorArea (h : Admits [] s t) (offset w) : Admits (ofWrite w) s (t.writeCursorArea offset w) := by
  unfold State.writeCursorArea
  dsimp only
  split
  · exact ((h.refuse w).raise _).weaken
  · exact .foldl _ (fun _ a hu => hu.takeCursor a.1 a.2 _ _) _ (h.passWrite none w)

/-! ## The Report Engine and the Verify Engine -/

theorem Admits.startSnapshot (h : Admits new s t) : Admits new s t.startSnapshot := h.outside rfl rfl rfl rfl

theorem Admits.requestSnapshot (h : Admits new s t) : Admits new s t.requestSnapshot := by
  unfold State.requestSnapshot
  split
  · exact h.startSnapshot
  · exact h.modReport _

theorem Admits.endWriteOut (h : Admits new s t) (faults) : Admits new s (t.endWriteOut faults) :=
  have done := (h.modReport fun e => { e with writeOut := .idle }).offer _
  .ite (done.modReport _).startSnapshot done

theorem Admits.completeReport (h : Admits new s t) (x fault) : Admits new s (t.completeReport x fault) := by
  have advanced : Admits new s t.advanceHead := by
    unfold State.advanceHead
    exact h.modReport _
  cases x with
  | headWord => exact .ite h (h.modReport _)
  | snapshotPart n =>
    simp only [State.completeReport, State.completePart]
    split
    · exact h
    · exact .ite (h.endWriteOut _) (h.modReport _)
  | dropped c => exact .ite (h.modReport _) advanced
  | record => exact .ite (h.modReport _) advanced

theorem Admits.writeTailWord (h : Admits new s t) (offset w) : Admits new s (t.writeTailWord offset w) := by
  unfold State.writeTailWord
  split
  · exact h
  · exact .ite (.ite (h.modReport _) (h.raise _)) (.ite (h.raise _) h)

theorem Admits.endTry (h : Admits new s t) (j) : Admits new s (t.endTry j) :=
  .ite ((h.removeJob _).publicationStep j.ring _).activate
    (.ite (h.count j.ring _).beginTry (h.damage j.ring _ _).activate)

theorem Admits.completeVerify (h : Admits new s t) (p g q x) : Admits new s (t.completeVerify p g q x) := by
  have lowered : Admits new s (t.modVerify fun e => { e with outstanding := e.outstanding - 1 }) :=
    h.modVerify _ (fun _ => Nat.le_refl _) fun _ => Nat.sub_le _ _
  unfold State.completeVerify
  dsimp only
  split
  · exact lowered
  · refine .ite ?_ lowered
    split
    · exact .ite (Admits.endTry (lowered.modVerify _) _) (lowered.modVerify _)
    · exact ((lowered.damage _ _ _).faultHold _ _ _ _).activate

/-- A job enters the verify queue while it has room (R111). -/
theorem Admits.settled (h : Admits new s t) (r index) : Admits new s (t.settled r index) := by
  refine .ite (h.publicationStep r index) ?_
  split
  · next room =>
    refine Admits.next (h.modBerth _ _) ⟨fun _ => Nat.le_refl _, Nat.le_refl _, Nat.le_refl _, id, fun _ => ?_, ?_, id⟩
    · rw [verify_modVerify, VerifyEngine.enqueue, length_activate, verify_modBerth, List.length_append]
      exact room
    · rw [verify_modVerify, VerifyEngine.enqueue, outstanding_activate]
  · exact (h.raise _).publicationStep r index

/-! ## Ring commands and the end of a load -/

theorem Admits.dropRingWork (h : Admits new s t) (r) : Admits new s (t.dropRingWork r) := by
  refine (h.endHolds false _).modVerify _ (fun e => ?_) fun e => ?_
  · rw [length_activate]
    exact List.length_filter_le _ _
  · rw [outstanding_activate]
    exact Nat.le_refl _

theorem Admits.clearRing (h : Admits new s t) (r) : Admits new s (t.clearRing r) :=
  Admits.modRing (.foldl _ (fun _ _ hu => hu.modBerth _ _) _ (h.dropRingWork r)) r _

theorem Admits.detachSlot (h : Admits new s t) (r k) : Admits new s (t.detachSlot r k) := by
  unfold State.detachSlot
  exact (((h.modSlot r k _).releaseSlotWhere r k _).endHolds true _).modSlot r k _

/-- A commit drops jobs, held reads and buffered records (R154). -/
theorem Admits.commit (h : Admits new s t) (l) : Admits new s (t.commit l) := by
  have device : Admits new s (t.commitDevice (deviceOf l.image)) := ((h.modControl _).modReport _).modTimeBase _
  have rings : Admits new s ((t.commitDevice (deviceOf l.image)).commitRings l) := by
    have dropped := Admits.foldl _ (fun _ r hu => hu.dropRingWork r) allRings device
    have taken := Admits.foldl _ (fun _ r hu => hu.modRing r fun _ => RingRecord.committed l.image r l.verdict[r]) allRings dropped
    unfold State.commitRings
    dsimp only
    exact taken.withPool _
  have restarted := rings.modReport ReportEngine.restarted fun _ => Nat.zero_le _
  unfold State.commit
  dsimp only
  exact .foldl _ (fun _ r hu => .ite (hu.modRing r _) hu) _ ((restarted.modControl _).raise _)

theorem Admits.reject (h : Admits new s t) (l) : Admits new s (t.reject l) := by
  have owed : Admits new s (if l.headWritten then t.modReport fun e => { e with headOwed := true } else t) :=
    .ite (h.modReport _) h
  cases hk : l.kind with
  | startUp => simp only [State.reject, hk]; exact owed.modControl _
  | reload writer slot => simp only [State.reject, hk]; exact owed.raise _

theorem Admits.endLoad (h : Admits new s t) (l) : Admits new s (t.endLoad l) := by
  have done {u : State} (hu : Admits new s u) : Admits new s (u.raiseReloadDone l.kind) := by
    unfold State.raiseReloadDone
    split
    · exact hu
    · exact hu.raise _
  unfold State.endLoad
  exact done (.ite ((h.modControl _).commit l) ((h.modControl _).reject l))

theorem Admits.completeLoaderWrite (h : Admits new s t) (x fault) : Admits new s (t.completeLoaderWrite x fault) := by
  unfold State.completeLoaderWrite
  split
  · exact h
  · split
    · exact h
    · exact h.modLoad _
    · exact h.endLoad _

/-- A command that is taken changes the ring or the load, or ends work of the ring (R4 to R6, R32, R79, R80, R159, R174). -/
theorem Admits.execute (h : Admits new s t) {c : CommandWord} (hc : t.execute c = .ok u) : Admits new s u := by
  have valid {v : CommandOutcome} (r : RingId) (hv : v = .ok u → Admits new s u)
      (e : (if t.rings[r].validity ≠ .valid then .error .ringInvalid else v) = .ok u) : Admits new s u := by
    split at e
    · cases e
    · exact hv e
  unfold State.execute at hc
  dsimp only at hc
  split at hc
  · refine valid _ (fun e => ?_) hc
    split at e <;> cases e
    exact h.modRing _ _
  · refine valid _ (fun e => ?_) hc
    split at e <;> cases e
    exact (h.clearRing _).modRing _ _
  · refine valid _ (fun e => ?_) hc
    split at e <;> cases e
    all_goals exact (h.clearRing _).modRing _ _
  · refine valid _ (fun e => ?_) hc
    split at e
    · cases e
    · cases e
    · split at e
      · cases e
      all_goals obtain rfl := Except.ok.inj e
      all_goals exact h.loseLock _ _
  · refine valid _ (fun e => ?_) hc
    split at e
    · cases e
    · split at e
      · cases e
      · cases e
      · split at e <;> cases e
        exact h.modSlot _ _ _
  · refine valid _ (fun e => ?_) hc
    split at e
    · cases e
    · split at e
      · cases e
      all_goals
        split at e <;> cases e
        exact h.detachSlot _ _
  · cases hc
    exact h.requestSnapshot
  · unfold State.beginReload at hc
    split at hc <;> cases hc
    exact h.modControl _
  · cases hc

theorem Admits.command (h : Admits new s t) (c) : Admits new s (t.command c) := by
  have cleared := h.modControl fun u => { u with attention := false }
  unfold State.command
  dsimp only
  split
  · exact cleared.raise _
  · split
    · exact cleared.raise _
    · next hc => exact .ite (cleared.execute hc) ((cleared.execute hc).raise _)

/-! ## Arrivals -/

theorem Admits.writeControl (h : Admits [] s t) (offset w) : Admits (ofWrite w) s (t.writeControl offset w) := by
  have passed := h.passWrite none w
  have commanded : Admits (ofWrite w) s (if covers offset w.length 0x300 then (t.passWrite none w).command (commandOf offset w)
    else t.passWrite none w) := .ite (passed.command _) passed
  exact .ite (h.writeCursorArea offset w)
    (.ite ((h.refuse w).raise _).weaken (.ite (commanded.writeTailWord offset w) commanded))

theorem Admits.refuseDisabled (h : Admits new s t) (a w) : Admits new s (t.refuseDisabled a w) := by
  have reported : Admits new s ((t.refuse w).reportDisabled a w) := .ite (h.refuse w) (((h.refuse w).raise _).setEpisode _)
  unfold State.refuseDisabled State.countDisabled
  split
  · exact reported.count _ _
  all_goals exact reported

theorem Admits.judgeWrite (h : Admits [] s t) (w) : Admits (ofWrite w) s (t.judgeWrite w) := by
  refine .ite (h.refuseDisabled _ w).weaken ?_
  unfold State.routeWrite
  split
  · exact h.writeControl _ w
  · exact h.passWrite none w
  · exact h.writeWindow _ _ _ w
  · exact .ite (h.passWrite none w) ((h.refuse w).raise _).weaken
  · exact h.passWrite none w

end

end Sys2Proof.Machine
end

-- ==== Every step keeps the stores, the tags and the link ====
section
/-! PROOFS. Every step keeps each store within its places and the outstanding tags distinct, and leaves the link settled (R96,
R110, R122, R123, R126, R128, R162): a transaction passes or is held at the open port alone, and a grant is made with room. -/

namespace Sys2Proof.Machine

open Sys2Proof Sys2Proof.Config

/-- The change keeps the stores within their places, and the outstanding tags distinct. -/
structure Orderly (s t : State) : Prop where
  capacity : s.withinCapacity → t.withinCapacity
  distinct : s.pairs.Nodup → t.pairs.Nodup

section

variable {s t u : State}

theorem Orderly.refl (s : State) : Orderly s s := ⟨id, id⟩

theorem Orderly.trans (h : Orderly s t) (h' : Orderly t u) : Orderly s u :=
  ⟨h'.capacity ∘ h.capacity, h'.distinct ∘ h.distinct⟩

theorem Admits.orderly (h : Admits [] s t) : Orderly s t := by
  refine ⟨fun ⟨pass, flight, holds, queue, reads, buffer⟩ => ?_, fun hs => ?_⟩
  · exact ⟨h.passThrough.trans pass, h.inFlight.trans flight, h.holds holds, h.queue queue, h.outstanding.trans reads,
      h.buffer buffer⟩
  · rw [List.nodup_iff_count_le_one] at hs ⊢
    exact fun k => (h.pairs k).trans (hs k)

/-- One transaction that was not outstanding becomes so, while the pass-through queue has a free entry (R123, R126). -/
theorem Admits.orderly_one {k : Initiator × Tag} (h : Admits [k] s t) (hf : s.passThroughFree = true) (hk : k ∉ s.pairs) :
    Orderly s t := by
  refine ⟨fun ⟨_, flight, holds, queue, reads, buffer⟩ => ?_, fun hs => ?_⟩
  · rw [passThroughFree_iff] at hf
    exact ⟨h.passThrough.trans hf, h.inFlight.trans flight, h.holds holds, h.queue queue, h.outstanding.trans reads,
      h.buffer buffer⟩
  · have distinct : (k :: s.pairs).Nodup := List.nodup_cons.mpr ⟨hk, hs⟩
    rw [List.nodup_iff_count_le_one] at distinct ⊢
    intro x
    have old := h.pairs x
    have one := distinct x
    rw [List.count_cons] at one
    rw [List.count_singleton] at old
    exact old.trans one

/-! ## Grants -/

theorem map_pair_issueHead (es : List PassEntry) : (issueHead es).map PassEntry.pair = es.map PassEntry.pair := by
  induction es with
  | nil => rfl
  | cons e rest ih =>
    unfold issueHead
    split
    · rw [List.map_cons, List.map_cons, ih]
    · rfl

theorem pairs_grantTo (s : State) (x : Source) : (s.grantTo x).pairs = s.pairs := by
  cases x with
  | passThrough =>
    simp only [State.grantTo, State.grantPassThrough]
    split
    · simp only [State.pairs, State.issue, State.modPort, map_pair_issueHead]
    · rfl
  | verify =>
    simp only [State.grantTo, State.grantVerify]
    split <;> rfl
  | report =>
    simp only [State.grantTo, State.grantReport]
    split <;> rfl
  | loader =>
    simp only [State.grantTo, State.grantLoader]
    split
    · split <;> rfl
    · rfl

/-- A verify read is issued while fewer than four are outstanding, and leaves the jobs in their places (R112). -/
theorem verify_grantTo {x : Source} (h : s.requests x = true) :
    (s.grantTo x).verify.queue.length = s.verify.queue.length ∧
      ((s.grantTo x).verify.outstanding = s.verify.outstanding ∨ (s.grantTo x).verify.outstanding ≤ verifyOutstandingMax) := by
  cases x with
  | verify =>
    simp only [State.requests, State.verifyRequests] at h
    cases ha : s.verify.active? with
    | none => rw [ha] at h; exact absurd h Bool.false_ne_true
    | some j =>
      rw [ha] at h
      simp only [Bool.and_eq_true, decide_eq_true_eq] at h
      simp only [State.grantTo, State.grantVerify, ha, State.verifyIssued, verify_modPort, verify_issue, verify_modVerify]
      obtain ⟨rest, hq⟩ := List.head?_eq_some_iff.mp ha
      exact ⟨by rw [hq]; rfl, .inr h.2⟩
  | passThrough =>
    simp only [State.grantTo, State.grantPassThrough]
    split <;> exact ⟨rfl, .inl rfl⟩
  | report =>
    simp only [State.grantTo, State.grantReport]
    split <;> exact ⟨rfl, .inl rfl⟩
  | loader =>
    simp only [State.grantTo, State.grantLoader]
    split
    · split <;> exact ⟨rfl, .inl rfl⟩
    · exact ⟨rfl, .inl rfl⟩

/-- A granted record leaves the buffer (R165). -/
theorem buffer_grantTo (s : State) (x : Source) : (s.grantTo x).report.buffer.length ≤ s.report.buffer.length := by
  cases x with
  | report =>
    simp only [State.grantTo, State.grantReport]
    split
    · next y _ =>
      simp only [report_modPort, report_issue, report_modReport]
      cases y with
      | record => exact (List.length_tail ..).trans_le (Nat.sub_le _ _)
      | _ => exact Nat.le_refl _
    · exact Nat.le_refl _
  | passThrough =>
    simp only [State.grantTo, State.grantPassThrough]
    split <;> exact Nat.le_refl _
  | verify =>
    simp only [State.grantTo, State.grantVerify]
    split <;> exact Nat.le_refl _
  | loader =>
    simp only [State.grantTo, State.grantLoader]
    split
    · split <;> exact Nat.le_refl _
    · exact Nat.le_refl _

/-- A grant is made to a source that requests, with room in the list (R128, R129). -/
theorem orderly_grantTo {x : Source} (h : s.grantee = some x) : Orderly s (s.grantTo x) := by
  obtain ⟨requests, room⟩ := grantee_requests s x h
  have admission := admission_grantTo s x
  obtain ⟨jobs, reading⟩ := verify_grantTo requests
  refine ⟨fun ⟨pass, _, holds, queue, reads, buffer⟩ => ⟨?_, ?_, ?_, ?_, ?_, (buffer_grantTo s x).trans buffer⟩, fun hs => ?_⟩
  · exact (passThrough_of_admission admission).trans_le pass
  · rw [inFlight_grantTo s x requests]
    exact room
  · rw [holds_of_admission admission]
    exact holds
  · exact jobs.trans_le queue
  · rcases reading with same | few
    · exact same.trans_le reads
    · exact few
  · rwa [pairs_grantTo]

theorem orderly_grantAll (n : Nat) (s : State) : Orderly s (State.grantAll n s) := by
  induction n generalizing s with
  | zero => exact Orderly.refl s
  | succ n ih =>
    unfold State.grantAll
    split
    · next hg => exact (orderly_grantTo hg).trans (ih _)
    · exact Orderly.refl s

theorem orderly_grant (s : State) : Orderly s s.grant := by
  unfold State.grant
  split
  · next hg => exact orderly_grantTo hg
  · exact Orderly.refl s

/-! ## Entries of released reads -/

/-- Taking the first released place leaves the others. -/
theorem takeReleased_perm {hs others : List HoldPlace} {x : ReadTx} {o : ReadOutcome}
    (h : takeReleased hs = some (x, o, others)) : ∃ p : HoldPlace, p.read = x ∧ hs.Perm (p :: others) := by
  induction hs generalizing others with
  | nil => exact nomatch h
  | cons a hs ih =>
    unfold takeReleased at h
    split at h
    · cases h
      exact ⟨a, rfl, .refl _⟩
    · split at h
      · next found =>
        cases h
        obtain ⟨p, hp, perm⟩ := ih found
        exact ⟨p, hp, (perm.cons a).trans (.swap p a _)⟩
      · cases h

/-- A released read moves from its place to a free entry, and is outstanding before and after (R100). -/
theorem orderly_enterReleased (s : State) : Orderly s s.enterReleased := by
  unfold State.enterReleased
  split
  · next x o others found =>
    split
    · next free =>
      obtain ⟨p, rfl, perm⟩ := takeReleased_perm found
      refine ⟨fun ⟨_, flight, holds, queue, reads, buffer⟩ => ⟨?_, flight, ?_, queue, reads, buffer⟩, fun hs => ?_⟩
      · rw [passThroughFree_iff] at free
        rw [passThrough_passRead, List.length_append]
        exact free
      · rw [perm.length_eq] at holds
        exact (Nat.le_succ _).trans holds
      · refine List.Perm.nodup ?_ hs
        rw [State.pairs, State.pairs, passThrough_passRead, List.map_append, List.map_singleton, ← List.append_assoc]
        exact (((perm.map HoldPlace.pair).append_right _).trans (List.perm_append_singleton p.pair _).symm)
    · exact Orderly.refl s
  · exact Orderly.refl s

theorem orderly_enterAllReleased (n : Nat) (s : State) : Orderly s (State.enterAllReleased n s) := by
  induction n generalizing s with
  | zero => exact Orderly.refl s
  | succ n ih =>
    unfold State.enterAllReleased
    split
    · exact (orderly_enterReleased s).trans (ih _)
    · exact Orderly.refl s

/-- The release order is an order of the same places (R99). -/
theorem orderReleased_perm (hs : List HoldPlace) : (orderReleased hs).Perm hs := by
  have split := List.filter_append_perm (fun h : HoldPlace => !h.waiting) hs
  simpa only [orderReleased, Bool.not_not] using split

theorem orderly_settleReleases (s t : State) : Orderly t (s.settleReleases t) := by
  unfold State.settleReleases
  split
  · have ordered : Admits [] t (t.modHolds orderReleased) :=
      (Admits.refl [] t).fewerHolds ((orderReleased_perm t.holds).map _).subperm rfl rfl rfl
    exact ordered.orderly.trans (orderly_enterAllReleased _ _)
  · exact Orderly.refl t

/-! ## Arrivals -/

theorem tagOutstanding_eq_false_iff (s : State) (i : Initiator) (g : Tag) :
    s.tagOutstanding i g = false ↔ (i, g) ∉ s.pairs := by
  simp only [State.tagOutstanding, State.pairs, Bool.or_eq_false_iff, List.any_eq_false, Bool.and_eq_true, beq_iff_eq,
    List.mem_append, List.mem_map, HoldPlace.pair, PassEntry.pair, Prod.mk.injEq, not_or, not_exists, not_and]
  tauto

/-- A transaction of good form is not outstanding yet (R123). -/
theorem notOutstanding_of_form {i : Initiator} {g : Tag} {a : Addr} {n : Nat} (h : ¬s.malformed i g a n = true) :
    (i, g) ∉ s.pairs := by
  rw [State.malformed, Bool.or_eq_true, not_or, Bool.not_eq_true, Bool.not_eq_true] at h
  exact (tagOutstanding_eq_false_iff s i g).mp h.2

/-- A transaction accepted while an entry is free passes, is held or is answered, and only then is outstanding (R123, R124). -/
theorem orderly_decide (x : Transaction) (hf : s.passThroughFree = true) : Orderly s (s.decide x) := by
  have unchanged := Admits.refl [] s
  cases x with
  | read t =>
    simp only [State.decide]
    split
    · exact (unchanged.answer _ t).orderly
    · next form => exact (unchanged.routeRead _ t).orderly_one hf (notOutstanding_of_form form)
  | write w =>
    simp only [State.decide]
    split
    · exact (unchanged.respond _ _ _ _).orderly
    · next form => exact (unchanged.judgeWrite w).orderly_one hf (notOutstanding_of_form form)

theorem orderly_arrive (x : Transaction) (h : s.accepts = true) : Orderly s (s.arrive x) := by
  have free : s.grantDue.passThroughFree = true := by
    rw [← accepts_of_admission (admission_grantDue s)] at h
    simp only [State.accepts, Bool.and_eq_true] at h
    exact h.1.2
  exact ((orderly_grantAll _ s).trans (orderly_decide x free)).trans (orderly_settleReleases _ _)

theorem orderly_drain (n : Nat) (s : State) : Orderly s (State.drain n s) := by
  induction n generalizing s with
  | zero => exact Orderly.refl s
  | succ n ih =>
    unfold State.drain
    split
    · exact Orderly.refl s
    · next x rest _ =>
      split
      · next accepting =>
        have unlinked : Orderly s (s.modLink fun _ => rest) := ((Admits.refl [] s).modLink _).orderly
        exact (unlinked.trans (orderly_arrive x accepting)).trans (ih _)
      · exact Orderly.refl s

theorem orderly_drainLink (s : State) : Orderly s s.drainLink := orderly_drain _ s

theorem orderly_entriesDue (s : State) : Orderly s s.entriesDue :=
  (orderly_enterAllReleased _ s).trans (orderly_drainLink _)

theorem orderly_due (s : State) : Orderly s s.due := (orderly_entriesDue s).trans (orderly_grantAll _ _)

theorem orderly_present (s : State) (x : Transaction) : Orderly s (s.present x) :=
  ((orderly_due s).trans ((Admits.refl [] _).modLink _).orderly).trans (orderly_drainLink _)

/-- An event keeps what its effect keeps. -/
theorem orderly_event (s : State) {f : State → State} (hf : ∀ v, Admits [] v (f v)) : Orderly s (s.event f) :=
  (((orderly_due s).trans (hf _).orderly).trans (orderly_settleReleases _ _)).trans (orderly_drainLink _)

/-! ## Completions and expiries -/

theorem admits_completeEntry (s : State) (e : PassEntry) (x : MemResult) : Admits [] s (s.retire.completeEntry e x) := by
  have responded : Admits [] s ((s.retire.freeEntry e).respondCompleted e x) := by
    rw [respondCompleted_eq]
    exact ((Admits.refl [] s).retire.freeEntry e).outside rfl rfl rfl rfl
  unfold State.completeEntry
  split
  · exact responded
  · exact responded.raise _

theorem admits_completePassThrough (x : MemResult) (s : State) : Admits [] s (s.completePassThrough x) := by
  unfold State.completePassThrough
  split
  · exact .ite (admits_completeEntry s _ x) (Admits.refl [] s)
  · exact Admits.refl [] s

theorem Admits.completeTracked {new : List (Initiator × Tag)} (h : Admits new s t) (x i fault) :
    Admits new s (t.completeTracked x i fault) := by
  have lowered (p : Nat) : Admits new s (t.lowerOutstanding p) := h.modBerth p _
  refine .ite (.ite ?_ ?_) h
  · unfold State.trackedFault
    refine Admits.faultHold ?_ _ _ _ _
    split
    · exact (lowered _).damage _ _ _
    · exact (lowered _).damage _ _ _
    · exact lowered _
    all_goals exact h
  · unfold State.trackedOkay
    dsimp only
    split
    · exact lowered _
    · exact .ite ((lowered _).settled _ _) (lowered _)
    · exact lowered _
    all_goals exact h

theorem admits_completeTrackedWrite (fault : Bool) (s : State) : Admits [] s (s.completeTrackedWrite fault) := by
  unfold State.completeTrackedWrite
  split
  · split
    · exact (admits_completeEntry s _ _).completeTracked _ _ fault
    · exact Admits.refl [] s
  · exact Admits.refl [] s

theorem admits_completeVerifyRead (x : MemResult) (s : State) : Admits [] s (s.completeVerifyRead x) := by
  have retired := (Admits.refl [] s).retire
  unfold State.completeVerifyRead
  split
  · split
    · refine Admits.completeVerify ?_ _ _ _ x
      split
      · exact retired
      · exact retired.raise _
    all_goals exact Admits.refl [] s
  · exact Admits.refl [] s

theorem admits_completeReportWrite (fault : Bool) (s : State) : Admits [] s (s.completeReportWrite fault) := by
  unfold State.completeReportWrite
  split
  · split
    · exact (Admits.refl [] s).retire.completeReport _ fault
    all_goals exact Admits.refl [] s
  · exact Admits.refl [] s

theorem admits_completeProfileRead (x : MemResult) (s : State) : Admits [] s (s.completeProfileRead x) := by
  unfold State.completeProfileRead
  split
  · exact (Admits.refl [] s).retire.modLoad _
  all_goals exact Admits.refl [] s

theorem admits_completeLoadWrite (fault : Bool) (s : State) : Admits [] s (s.completeLoadWrite fault) := by
  have retired := (Admits.refl [] s).retire
  unfold State.completeLoadWrite
  split
  · exact Admits.refl [] s
  · exact retired.completeLoaderWrite _ fault
  · exact retired.completeLoaderWrite _ fault
  · exact Admits.refl [] s

theorem admits_expireFirstHold (s : State) : Admits [] s s.expireFirstHold := by
  unfold State.expireFirstHold
  split
  · exact (Admits.refl [] s).expireHold _
  · exact Admits.refl [] s

theorem admits_expireHoldOf (i : Initiator) (g : Tag) (s : State) : Admits [] s (s.expireHoldOf i g) := by
  unfold State.expireHoldOf
  split
  · exact (Admits.refl [] s).expireHold _
  · exact Admits.refl [] s

theorem admits_expireQuietIfDue (r : RingId) (s : State) : Admits [] s (s.expireQuietIfDue r) :=
  .ite ((Admits.refl [] s).expireQuiet r) (Admits.refl [] s)

theorem admits_expirePeriodIfDue (s : State) : Admits [] s s.expirePeriodIfDue := by
  unfold State.expirePeriodIfDue State.expirePeriod
  exact .ite ((Admits.refl [] s).requestSnapshot.modReport _) (Admits.refl [] s)

/-! ## The tick and the pins -/

theorem orderly_expireDueHolds (n : Nat) (s : State) : Orderly s (State.expireDueHolds n s) := by
  induction n generalizing s with
  | zero => exact Orderly.refl s
  | succ n ih =>
    unfold State.expireDueHolds
    split
    · exact ((orderly_event s admits_expireFirstHold).trans (orderly_due _)).trans (ih _)
    · exact Orderly.refl s

theorem orderly_expireQuiets (l : List RingId) (s : State) :
    Orderly s (l.foldl (fun s r => s.event (State.expireQuietIfDue r)) s) := by
  induction l generalizing s with
  | nil => exact Orderly.refl s
  | cons r l ih =>
    rw [List.foldl_cons]
    exact (orderly_event s (admits_expireQuietIfDue r)).trans (ih _)

theorem orderly_expireDue (s : State) : Orderly s s.expireDue :=
  ((orderly_expireDueHolds s.dueHolds s).trans (orderly_expireQuiets allRings _)).trans (orderly_event _ admits_expirePeriodIfDue)

theorem orderly_tick (s : State) : Orderly s s.tick := by
  unfold State.tick
  split
  · exact (((orderly_due s).trans (orderly_expireDue _)).trans (orderly_due _)).trans
      ((Admits.refl [] _).modTimeBase _).orderly
  · exact orderly_due s

/-- At device reset every store is empty (R132). -/
theorem orderly_deviceReset (s : State) : Orderly s s.deviceReset := by
  obtain ⟨capacity, -, distinct, -⟩ := invariantsHoldAtReset
  exact ⟨fun _ => capacity, fun _ => distinct⟩

theorem admits_release (ctlsel : BitVec 4) (s : State) : Admits [] s (s.release ctlsel) :=
  .ite (Admits.refl [] s) (((Admits.refl [] s).modPins _).modControl _)

/-! ## Every step -/

theorem orderly_exec (i : Instr) (s t : State) (h : exec i s = .next t) : Orderly s t := by
  have presented (x : Transaction) (e : Host.Outcome.next (s.present x) = (.next t : Host.Outcome State Fault Refusal)) :
      Orderly s t := by
    cases e
    exact orderly_present s x
  have effect {f : State → State} (hf : ∀ v, Admits [] v (f v))
      (e : Host.Outcome.next (s.event f) = (.next t : Host.Outcome State Fault Refusal)) : Orderly s t := by
    cases e
    exact orderly_event s hf
  have due := orderly_due s
  have unchanged := Admits.refl [] s.due
  cases i with
  | deviceReset => cases h; exact due.trans (orderly_deviceReset _)
  | resetRelease ctlsel => cases h; exact due.trans (admits_release ctlsel _).orderly
  | wenFall => cases h; exact due.trans (unchanged.modPins _).orderly
  | wenRise => cases h; exact due.trans ((unchanged.modPins _).setEpisode _).orderly
  | timeBaseTick => cases h; exact orderly_tick s
  | arbiterGrant => cases h; exact (orderly_entriesDue s).trans (orderly_grant _)
  | releasedReadEntry => cases h; exact (orderly_enterReleased s).trans (orderly_drainLink _)
  | passThroughCompletion x => exact effect (admits_completePassThrough x) h
  | trackedWriteCompletion fault => exact effect (admits_completeTrackedWrite fault) h
  | verifyReadCompletion x => exact effect (admits_completeVerifyRead x) h
  | reportWriteCompletion fault => exact effect (admits_completeReportWrite fault) h
  | loaderReadCompletion x => exact effect (admits_completeProfileRead x) h
  | loaderWriteCompletion fault => exact effect (admits_completeLoadWrite fault) h
  | quietTimerExpiry r => exact effect (admits_expireQuietIfDue r) h
  | holdDeadline i g => exact effect (admits_expireHoldOf i g) h
  | periodTimerExpiry => exact effect admits_expirePeriodIfDue h
  | _ => exact presented _ h

theorem orderly_step (h : step s = .next t) : Orderly s t := by
  unfold step at h
  split at h
  · cases h
    exact Orderly.refl s
  · next c rest _ =>
    have queue : Admits [] s (s.withPending rest) := (Admits.refl [] s).outside rfl rfl rfl rfl
    exact queue.orderly.trans (orderly_exec c _ t h)

/-- The count does not bear on acceptance (R122). -/
theorem linkSettled_modTimeBase (f : TimeBase → TimeBase) (h : s.linkSettled) : (s.modTimeBase f).linkSettled := h

/-- Every command ends with the link settled, whatever it finds (R122, log entry 9). -/
theorem linkSettled_exec (i : Instr) (s t : State) (h : exec i s = .next t) : t.linkSettled := by
  have due := (nothingDue_due s).1
  have presented (x : Transaction) (e : Host.Outcome.next (s.present x) = (.next t : Host.Outcome State Fault Refusal)) :
      t.linkSettled := by
    cases e
    exact drainLink_settles _
  have effect {f : State → State}
      (e : Host.Outcome.next (s.event f) = (.next t : Host.Outcome State Fault Refusal)) : t.linkSettled := by
    cases e
    exact drainLink_settles _
  cases i with
  | deviceReset => cases h; exact .inl rfl
  | resetRelease ctlsel =>
    cases h
    unfold State.release
    split
    · exact due
    · exact linkSettled_of_admission rfl rfl due
  | wenFall => cases h; exact linkSettled_of_admission rfl rfl due
  | wenRise => cases h; exact linkSettled_of_admission rfl rfl due
  | timeBaseTick =>
    cases h
    unfold State.tick
    split
    · exact linkSettled_modTimeBase _ (nothingDue_due _).1
    · exact due
  | arbiterGrant =>
    cases h
    exact linkSettled_of_admission (link_of_outer (outer_grant _)) (admission_grant _) (linkSettled_entriesDue s)
  | releasedReadEntry => cases h; exact drainLink_settles _
  | passThroughCompletion _ | trackedWriteCompletion _ | verifyReadCompletion _ | reportWriteCompletion _
  | loaderReadCompletion _ | loaderWriteCompletion _ | quietTimerExpiry _ | holdDeadline _ _ | periodTimerExpiry =>
    exact effect h
  | _ => exact presented _ h

theorem linkSettled_step (hs : s.linkSettled) (h : step s = .next t) : t.linkSettled := by
  unfold step at h
  split at h
  · cases h
    exact hs
  · exact linkSettled_exec _ _ t h

/-! ## Acceptance -/

theorem grantDue_grantDue (s : State) : s.grantDue.grantDue = s.grantDue := grantDue_none _ (grantee_grantDue s)

/-- The port takes the transaction at the head of the link, then those behind it (R122). -/
theorem drainLink_open {x : Transaction} {rest : List Transaction} (hl : s.link = x :: rest) (ho : s.accepts = true) :
    s.drainLink = (State.arrive x { s with link := rest }).drainLink := by
  have link : (State.arrive x { s with link := rest }).link = rest := link_of_outer (outer_arrive { s with link := rest } x)
  rw [State.drainLink, hl, List.length_cons, drain_open _ s x rest hl ho, State.drainLink, link]
  rfl

end

/-- Settles O7: no operation but a pass fills a store beyond its places, and a transaction passes while an entry is free. -/
theorem everyStepKeepsCapacity : Obligations.EveryStepKeepsCapacity :=
  fun _ _ hs h => (orderly_step h).capacity hs

/-- Settles O8: every event ends with acceptance, and a transaction of good form is not outstanding when it is accepted. -/
theorem everyStepKeepsLinkSettled : Obligations.EveryStepKeepsLinkSettled := by
  refine ⟨fun s t hs h => linkSettled_step hs h, fun s t hs h => ?_, fun s => ⟨drainLink_settled s, fun x rest hl ho => drainLink_open hl ho,
    fun x => ⟨?_, grantDue_none s, ?_⟩⟩⟩
  · rw [tagsDistinct_iff] at hs ⊢
    exact (orderly_step h).distinct hs
  · rw [State.arrive, State.arrive, grantDue_grantDue]
  · intro i hi ho
    rw [exec_arrival i x s hi ho, State.arrive, grantDue_none s ho.2.2]

end Sys2Proof.Machine
end

-- ==== Verify reads and tries ====
section
/-! PROOFS. VERIFY_READ_COMPLETION: a completion that is stale, one that feeds the active try, the end of a try, and a read
that faults (R112 to R117, R131). -/

namespace Sys2Proof.Machine

open Sys2Proof Sys2Proof.Config

/-! ## Events that let nothing in -/

/-- An event that leaves what acceptance looks at ends with its effect: no read is released, no transaction accepted
(R99, R122). -/
theorem event_of_admission {s : State} {f : State → State} (hd : s.nothingDue) (hl : (f s).link = s.link)
    (ha : (f s).admission = s.admission) : s.event f = f s := by
  rw [event_nothingDue s f hd, settleReleases_none s _ (holds_of_admission ha),
    drainLink_settled _ (linkSettled_of_admission hl ha hd.1)]

/-! ## The row -/

/-- The engine after one of its reads has completed, whatever the completion holds (R113). -/
def VerifyEngine.readReturned (e : VerifyEngine) : VerifyEngine := { e with outstanding := e.outstanding - 1 }

/-- The state in which the oldest request, a verify read, has left the port and is outstanding no more (R113, R128). -/
def State.readReturned (s : State) (rest : List Request) : State :=
  { s with port := { s.port with inFlight := rest }, verify := s.verify.readReturned }

theorem readReturned_of_retire {s : State} {q : Request} {rest : List Request} (hq : s.port.inFlight = q :: rest) :
    s.retire.modVerify VerifyEngine.readReturned = s.readReturned rest := by
  rw [State.retire, State.modPort, hq]
  rfl

/-- A record raised has nothing to do with the Verify Engine. -/
theorem raise_modVerify (s : State) (c : Record) (f : VerifyEngine → VerifyEngine) :
    (s.raise c).modVerify f = (s.modVerify f).raise c := by
  rw [raise_eq, raise_eq (s.modVerify f), report_raise_congr (s := s) (t := s.modVerify f) c rfl rfl rfl]
  rfl

/-- The read is not one of the active job's berth and generation (R113). -/
def VerifyEngine.isStale (e : VerifyEngine) (p : Nat) (g : BitVec 8) : Prop :=
  ∀ j, e.queue.head? = some j → ¬(j.berth = p ∧ j.generation = g)

/-- A stale completion lowers the count of outstanding reads alone (R113). -/
theorem completeVerify_stale {s : State} {p : Nat} {g : BitVec 8} (q : Request) (m : MemResult)
    (h : s.verify.isStale p g) : s.completeVerify p g q m = s.modVerify VerifyEngine.readReturned := by
  rw [State.completeVerify, VerifyEngine.active?]
  cases active : s.verify.queue.head? with
  | none => rfl
  | some j => exact if_neg (h j active)

/-- A completion for the active job's berth and generation is applied (R113). -/
theorem completeVerify_applied {s : State} {j : VerifyJob} (q : Request) (m : MemResult)
    (h : s.verify.queue.head? = some j) :
    s.completeVerify j.berth j.generation q m = match m with
      | .okay data => (s.modVerify VerifyEngine.readReturned).applyVerifyRead j q data
      | .memfault => (s.modVerify VerifyEngine.readReturned).applyVerifyFault j := by
  rw [State.completeVerify, VerifyEngine.active?, h]
  exact if_pos ⟨rfl, rfl⟩

section

variable {s : State} {q : Request} {rest : List Request} {r : RingId} {p n : Nat} {g : BitVec 8}
  (hq : s.port.inFlight = q :: rest) (ho : q.origin = .verify r p n g)

include hq ho

/-- The completion of the oldest request, a verify read: it leaves the port, and a fault is reported (R113, R131). -/
theorem completeVerifyRead_oldest (m : MemResult) : s.completeVerifyRead m = match m with
    | .okay data => s.retire.completeVerify p g q (.okay data)
    | .memfault => (s.retire.raise (verifyFaultRecord r n q.address)).completeVerify p g q .memfault := by
  simp only [State.completeVerifyRead, hq, List.head?_cons, ho]
  cases m <;> rfl

theorem completeVerifyRead_stale_okay (data : List Byte) (h : s.verify.isStale p g) :
    s.completeVerifyRead (.okay data) = s.readReturned rest := by
  rw [completeVerifyRead_oldest hq ho]
  exact (completeVerify_stale (s := s.retire) q _ h).trans (readReturned_of_retire hq)

theorem completeVerifyRead_stale_memfault (h : s.verify.isStale p g) :
    s.completeVerifyRead .memfault = (s.readReturned rest).raise (verifyFaultRecord r n q.address) := by
  rw [completeVerifyRead_oldest hq ho]
  refine (completeVerify_stale q _ ?_).trans ?_
  · rwa [verify_raise]
  · rw [raise_modVerify, readReturned_of_retire hq]

end

section

variable {s : State} {q : Request} {rest : List Request} {j : VerifyJob} {r : RingId} {n : Nat}
  (hq : s.port.inFlight = q :: rest) (ho : q.origin = .verify r j.berth n j.generation)
  (hj : s.verify.queue.head? = some j)

include hq ho hj

theorem completeVerifyRead_applied_okay (data : List Byte) :
    s.completeVerifyRead (.okay data) = (s.readReturned rest).applyVerifyRead j q data := by
  rw [completeVerifyRead_oldest hq ho, ← readReturned_of_retire hq]
  exact completeVerify_applied q _ hj

theorem completeVerifyRead_applied_memfault : s.completeVerifyRead .memfault =
    ((s.readReturned rest).raise (verifyFaultRecord r n q.address)).applyVerifyFault j := by
  rw [completeVerifyRead_oldest hq ho, ← readReturned_of_retire hq, ← raise_modVerify]
  exact completeVerify_applied q _ (by rwa [verify_raise])

end

/-! ## Completions that do not end the try -/

/-- Settles O48. -/
theorem verifyCompletionFeedsTheTry : Obligations.VerifyCompletionFeedsTheTry := by
  intro s q rest r p n g data hq ho hd
  have quiet {m : MemResult} {t : State} (completed : s.completeVerifyRead m = t) (link : t.link = s.link)
      (admission : t.admission = s.admission) : exec (.verifyReadCompletion m) s = .next t := by
    subst completed
    exact congrArg _ (event_of_admission hd link admission)
  refine ⟨fun stale => ⟨?_, ?_⟩, fun j active berth generation more => ?_⟩
  · exact quiet (completeVerifyRead_stale_okay hq ho data stale) rfl rfl
  · refine quiet (completeVerifyRead_stale_memfault hq ho stale) (link_raise _ _) ?_
    rw [State.admission, control_raise, port_raise, holds_raise]
    rfl
  · subst berth generation
    refine quiet ((completeVerifyRead_applied_okay hq ho active data).trans (if_neg more)) rfl rfl

/-! ## The end of a try -/

theorem remove_queue {e : VerifyEngine} {jobs : List VerifyJob} (p : Nat) (h : e.queue = jobs) :
    e.remove p = { e with queue := jobs.filter (·.berth != p) } := by
  rw [VerifyEngine.remove, h]

theorem beginTry_cons {e : VerifyEngine} {j : VerifyJob} {jobs : List VerifyJob} (h : e.queue = j :: jobs) :
    e.beginTry = { e with
      queue := { j with tries := j.tries + 1, phase := .reading } :: jobs
      cursor := 0, check := crcInit, tail := emptyTail } := by
  rw [VerifyEngine.beginTry, h]

/-- The three tests of R114. -/
theorem tryPasses_iff (s : State) (j : VerifyJob) : s.tryPasses j = true ↔
    crcComplete s.verify.check = tailCheckCode s.verify.tail ∧
      tailPatternOk s.rings[j.ring].profile.sync s.verify.tail = true ∧
      crcComplete s.verify.check = (s.berth j.berth).check := by
  simp only [State.tryPasses, Bool.and_eq_true, beq_iff_eq, and_assoc]

theorem jobIndex_of_poolIndex {s t : State} {j : VerifyJob} {b : Nat} (hb : j.berth = s.poolIndex j.ring b)
    (rings : t.rings = s.rings) : t.jobIndex j = b := by
  rw [State.jobIndex, rings, hb]
  exact Nat.add_sub_cancel_left _ _

/-- The end of a try, by its three outcomes (R114 to R116). -/
theorem endTry_eq {s : State} {j : VerifyJob} {b : Nat} (hb : j.berth = s.poolIndex j.ring b) : s.endTry j =
    if s.tryPasses j then
      ((s.modVerify (VerifyEngine.remove j.berth)).publicationStep j.ring b).modVerify VerifyEngine.activate
    else if j.tries < s.rings[j.ring].profile.verifyTries then
      (s.count j.ring .verifyRetries).modVerify VerifyEngine.beginTry
    else (s.damage j.ring b .verifyFailed).modVerify VerifyEngine.activate := by
  rw [State.endTry, jobIndex_of_poolIndex hb rfl]

/-- Settles O49, by the outcomes of a try's end; a try begun again lets nothing in. -/
theorem verifyTryEnds : Obligations.VerifyTryEnds := by
  intro s q rest j jobs r n b hq ho hv hd hb _ old lowered
  have active : s.verify.queue.head? = some j := by rw [hv]; rfl
  have row (m : MemResult) : exec (.verifyReadCompletion m) s =
      .next (s.settleReleases (s.completeVerifyRead m)).drainLink := congrArg _ (event_nothingDue s _ hd)
  refine ⟨?_, ?_⟩
  · intro data last fed done passes
    have completed : s.completeVerifyRead (.okay data) = State.endTry j { lowered with verify := fed } :=
      (completeVerifyRead_applied_okay hq ho active data).trans (if_pos last)
    have ended := completed.trans (endTry_eq hb)
    have tests := tryPasses_iff { lowered with verify := fed } j
    refine ⟨fun pass => ?_, fun fail again => ?_, fun fail spent => ?_⟩
    · rw [row, ended, if_pos (tests.mpr pass), ← remove_queue (e := fed) j.berth hv]
      rfl
    · rw [if_neg (fun h => fail (tests.mp h)), if_pos again] at ended
      have begun := beginTry_cons (e := fed) hv
      rw [← begun]
      exact congrArg Host.Outcome.next ((event_of_admission hd (by rw [ended]; rfl) (by rw [ended]; rfl)).trans ended)
    · rw [row, ended, if_neg (fun h => fail (tests.mp h)), if_neg (Nat.not_lt.mpr spent)]
  · have index := jobIndex_of_poolIndex (t := (s.readReturned rest).raise (verifyFaultRecord r n q.address)) hb (rings_raise _ _)
    rw [row, completeVerifyRead_applied_memfault hq ho active, State.applyVerifyFault, index]
    rfl

end Sys2Proof.Machine
end

-- ==== Grants ====
section
/-! PROOFS. What a grant issues, source by source, and when each source requests (R112, R126, R128, R129, R152, R165). -/

namespace Sys2Proof.Machine

open Sys2Proof Sys2Proof.Config

/-! ## The row -/

/-- With room and nothing to enter, ARBITER_GRANT grants to the first source in turn that requests (R129). -/
theorem exec_arbiterGrant {s : State} {x : Source} (hl : s.linkSettled)
    (he : s.releasedWaits = false ∨ s.passThroughFree = false) (room : s.port.inFlight.length < 16)
    (turn : s.port.lastGranted.after.find? s.requests = some x) : exec .arbiterGrant s = .next (s.grantTo x) := by
  have entries : s.entriesDue = s := by
    rw [State.entriesDue, enterReleases_none s he, drainLink_settled s hl]
  have grantee : s.grantee = some x := (if_pos (decide_eq_true room)).trans turn
  have granted : s.grant = s.grantTo x := by
    rw [State.grant, grantee]
  exact congrArg Host.Outcome.next ((congrArg State.grant entries).trans granted)

/-! ## The pass-through queue -/

/-- The first waiting entry becomes issued; those ahead of it are issued already (R126). -/
theorem issueHead_append {before : List PassEntry} (e : PassEntry) (rest : List PassEntry)
    (issued : ∀ d ∈ before, d.issued = true) (waits : e.issued = false) :
    issueHead (before ++ e :: rest) = before ++ { e with issued := true } :: rest := by
  induction before with
  | nil => exact if_neg (by rw [waits]; exact Bool.false_ne_true)
  | cons d before ih =>
    obtain ⟨head, tail⟩ := List.forall_mem_cons.mp issued
    rw [List.cons_append, issueHead, if_pos head, ih tail, List.cons_append]

/-- The queue around its oldest waiting entry (R126). -/
theorem waitingHead_some {p : MemoryPort} {e : PassEntry} (h : p.waitingHead = some e) :
    e.issued = false ∧ ∃ before rest, p.passThrough = before ++ e :: rest ∧ ∀ d ∈ before, d.issued = true := by
  obtain ⟨waits, before, rest, queue, issued⟩ := List.find?_eq_some_iff_append.mp h
  refine ⟨(Bool.not_eq_true' _).mp waits, before, rest, queue, fun d hd => ?_⟩
  simpa using issued d hd

theorem requests_passThrough_iff (s : State) :
    s.requests .passThrough = true ↔ ∃ e ∈ s.port.passThrough, e.issued = false := by
  rw [State.requests, MemoryPort.waitingHead, List.find?_isSome]
  simp only [Bool.not_eq_true']

theorem grantTo_passThrough {s : State} {before rest : List PassEntry} {e : PassEntry}
    (queue : s.port.passThrough = before ++ e :: rest) (head : s.port.waitingHead = some e)
    (issued : ∀ d ∈ before, d.issued = true) (waits : e.issued = false) :
    s.grantTo .passThrough = { s with
      port := ⟨before ++ { e with issued := true } :: rest, s.port.inFlight ++ [e.request], .passThrough⟩ } := by
  rw [State.grantTo, State.grantPassThrough, head, ← issueHead_append e rest issued waits, ← queue]
  rfl

/-! ## The Verify Engine -/

theorem requests_verify_iff (s : State) : s.requests .verify = true ↔
    s.verify.outstanding < 4 ∧ ∃ j rest, s.verify.queue = j :: rest ∧ j.phase = .reading := by
  rw [State.requests, State.verifyRequests, VerifyEngine.active?]
  cases s.verify.queue with
  | nil => simp
  | cons j rest =>
    rw [List.head?_cons, Bool.and_eq_true, beq_iff_eq, decide_eq_true_eq, and_comm]
    refine and_congr_right fun _ => ⟨fun reading => ⟨j, rest, rfl, reading⟩, ?_⟩
    rintro ⟨_, _, queue, reading⟩
    cases queue
    exact reading

theorem grantTo_verify {s : State} {j : VerifyJob} {rest : List VerifyJob} (queue : s.verify.queue = j :: rest) :
    s.grantTo .verify = { s with
      port := { s.port with inFlight := s.port.inFlight ++ [s.verifyRequest j], lastGranted := .verify }
      verify := { s.verify with
        queue := { j with
          phase := if s.jobEnd j ≤ s.verify.cursor + s.nextReadLength j then .comparing else .reading } :: rest
        cursor := s.verify.cursor + s.nextReadLength j
        outstanding := s.verify.outstanding + 1 } } := by
  have active : s.verify.active? = some j := by rw [VerifyEngine.active?, queue]; rfl
  have tail : s.verify.queue.tail = rest := by rw [queue]; rfl
  rw [State.grantTo, State.grantVerify, active, ← tail]
  rfl

/-! ## The Report Engine -/

theorem reportOutstanding_eq_false_iff (s : State) :
    s.reportOutstanding = false ↔ ∀ q ∈ s.port.inFlight, ∀ y : ReportWrite, q.origin ≠ .report y := by
  rw [State.reportOutstanding, List.any_eq_false]
  refine forall₂_congr fun q _ => ?_
  cases q.origin <;> simp

theorem loaderWriting_eq_false_iff (s : State) :
    s.loaderWriting = false ↔ ∀ l : Load, s.control.load = some l → l.phase = .reading := by
  rw [State.loaderWriting]
  cases s.control.load with
  | none => simp
  | some l =>
    simp only [Option.some.injEq, forall_eq']
    cases l.phase <;> simp

theorem requests_report_iff (s : State) : s.requests .report = true ↔
    (∀ q ∈ s.port.inFlight, ∀ y : ReportWrite, q.origin ≠ .report y) ∧
      (∀ l : Load, s.control.load = some l → l.phase = .reading) ∧ s.reportNext ≠ none := by
  rw [State.requests, State.reportRequests, Bool.and_eq_true, Bool.and_eq_true, Bool.not_eq_true', Bool.not_eq_true',
    reportOutstanding_eq_false_iff, loaderWriting_eq_false_iff, Option.isSome_iff_ne_none, and_assoc]

theorem grantTo_report {s : State} {y : ReportWrite} (next : s.reportNext = some y) :
    s.grantTo .report = { s with
      port := { s.port with inFlight := s.port.inFlight ++ [s.reportRequest y], lastGranted := .report }
      report := s.report.issued y } := by
  rw [State.grantTo, State.grantReport, next]
  rfl

theorem issued_snapshotPart {e : ReportEngine} {m k : Nat} (n : Nat) (h : e.writeOut = .writing m k) :
    e.issued (.snapshotPart n) = { e with lastTurn := .part, writeOut := .writing (n + 1) k } := by
  rw [ReportEngine.issued, h]

/-! ## The Report Engine's next write -/

theorem reportRoom_iff (s : State) : s.reportRoom = true ↔ ∃ d : DeviceProfile, s.control.device = some d ∧
    (s.report.head + d.reportEntries - s.report.tail) % d.reportEntries + 1 < d.reportEntries := by
  rw [State.reportRoom]
  cases s.control.device with
  | none => simp
  | some d =>
    simp only [Option.some.injEq, exists_eq_left']
    exact decide_eq_true_iff

/-- A record write is due: the report ring has room, and there is a record to write (R163, R165). -/
def State.recordDue (s : State) : Prop :=
  (∃ d : DeviceProfile, s.control.device = some d ∧
    (s.report.head + d.reportEntries - s.report.tail) % d.reportEntries + 1 < d.reportEntries) ∧
    (s.report.dropped ≠ 0 ∨ s.report.buffer ≠ [])

/-- The record write that is due: REPORTS_DROPPED ahead of the buffered records (R166). -/
def State.nextRecord (s : State) : ReportWrite :=
  if s.report.dropped ≠ 0 then .dropped s.report.dropped else .record

theorem dueRecord_of_due {s : State} (h : s.recordDue) : s.dueRecord = some s.nextRecord := by
  obtain ⟨room, record⟩ := h
  rw [State.dueRecord, if_pos ((reportRoom_iff s).mpr room), State.nextRecord]
  split
  · rfl
  · next undropped =>
    have buffered : s.report.buffer.isEmpty = false := by
      rw [List.isEmpty_eq_false_iff]
      exact record.resolve_left undropped
    rw [buffered]
    rfl

theorem dueRecord_of_not_due {s : State} (h : ¬s.recordDue) : s.dueRecord = none := by
  unfold State.dueRecord
  split
  · next room =>
    obtain ⟨drop, buffer⟩ := not_or.mp fun record => h ⟨(reportRoom_iff s).mp room, record⟩
    rw [if_neg drop, not_not.mp buffer]
    rfl
  · rfl

theorem duePart_writing {s : State} {n k : Nat} (h : s.report.writeOut = .writing n k) (hn : n ≤ 9) :
    s.duePart = some (.snapshotPart n) := by
  rw [State.duePart, h]
  exact if_pos hn

theorem duePart_none {s : State} (h : ∀ n k : Nat, s.report.writeOut = .writing n k → 9 < n) : s.duePart = none := by
  unfold State.duePart
  split
  · rfl
  · next n k writing => exact if_neg (Nat.not_le.mpr (h n k writing))

section

variable {s : State}

theorem reportNext_owed (h : s.report.headOwed = true) : s.reportNext = some .headWord := if_pos h

variable (h : s.report.headOwed = false)

include h

/-- A write-out with a part to issue takes turns with a record write that is due (R165). -/
theorem reportNext_part {n k : Nat} (hw : s.report.writeOut = .writing n k) (hn : n ≤ 9) :
    (s.recordDue → s.reportNext =
      if s.report.lastTurn = .record then some (.snapshotPart n) else some s.nextRecord) ∧
    (¬s.recordDue → s.reportNext = some (.snapshotPart n)) := by
  refine ⟨fun due => ?_, fun undue => ?_⟩
  · rw [State.reportNext, h, duePart_writing hw hn, dueRecord_of_due due]
    rfl
  · rw [State.reportNext, h, duePart_writing hw hn, dueRecord_of_not_due undue]
    rfl

theorem reportNext_record (hw : ∀ n k : Nat, s.report.writeOut = .writing n k → 9 < n) :
    (s.recordDue → s.reportNext = some s.nextRecord) ∧ (¬s.recordDue → s.reportNext = none) := by
  refine ⟨fun due => ?_, fun undue => ?_⟩
  · rw [State.reportNext, h, duePart_none hw, dueRecord_of_due due]
    rfl
  · rw [State.reportNext, h, duePart_none hw, dueRecord_of_not_due undue]
    rfl

end

/-! ## The loader -/

theorem loaderNext_eq_some_iff {s : State} {y : LoaderStep} :
    s.loaderNext = some y ↔ ∃ l : Load, s.control.load = some l ∧ l.next = some y := by
  rw [State.loaderNext]
  cases s.control.load with
  | none => simp
  | some l => simp

/-- A load has a step to request while it reads, and once for each of its two words (R152, R153). -/
theorem next_isSome_iff (l : Load) : l.next.isSome = true ↔
    l.phase = .reading ∧ l.result = none ∧ l.issued < 11 ∨ l.phase = .headWord false ∨ l.phase = .statusWord false := by
  rw [Load.next]
  cases l.phase with
  | reading =>
    have few : decide (l.issued < loadReads) = true ↔ l.issued < 11 := decide_eq_true_iff
    simp [few]
  | headWord issued => cases issued <;> simp
  | statusWord issued => cases issued <;> simp

theorem requests_loader_iff (s : State) : s.requests .loader = true ↔ ∃ l : Load, s.control.load = some l ∧
    (l.phase = .reading ∧ l.result = none ∧ l.issued < 11 ∨ l.phase = .headWord false ∨ l.phase = .statusWord false) := by
  rw [State.requests, State.loaderNext]
  cases s.control.load with
  | none => simp
  | some l => simp [next_isSome_iff]

theorem next_reading {l : Load} (hp : l.phase = .reading) (hr : l.result = none) (hi : l.issued < 11) :
    l.next = some (.readBlock l.issued) := by
  rw [Load.next, hp, hr]
  exact if_pos (decide_eq_true hi)

theorem next_headWord {l : Load} (hp : l.phase = .headWord false) : l.next = some .headWord := by
  rw [Load.next, hp]
  rfl

theorem next_statusWord {l : Load} (hp : l.phase = .statusWord false) : l.next = some .statusWord := by
  rw [Load.next, hp]
  rfl

theorem grantTo_loader {s : State} {l : Load} {y : LoaderStep} (load : s.control.load = some l) (next : l.next = some y) :
    s.grantTo .loader = { s with
      port := { s.port with inFlight := s.port.inFlight ++ [s.loaderRequest l y], lastGranted := .loader }
      control := { s.control with load := some (l.stepIssued y) } } := by
  simp only [State.grantTo, State.grantLoader, load, next, State.modLoad, State.modControl, Option.map_some]
  rfl

end Sys2Proof.Machine
end

-- ==== The bytes of requests ====
section
/-! PROOFS. The address, the length and the bytes of every request (R126, R128, R151 to R153, R162, R163, R173, R175); with
them ARBITER_GRANT is settled. -/

namespace Sys2Proof.Machine

open Sys2Proof Sys2Proof.Config

/-! ## Addresses -/

theorem controlBase_eq (c : BitVec 4) : controlBase c = c.toNat * 2 ^ 32 + 2 ^ 32 - 4096 := by
  rw [controlBase, BitVec.toNat_append, ← Nat.shiftLeft_add_eq_or_of_lt (by decide), Nat.shiftLeft_eq,
    Nat.add_sub_assoc (by decide)]
  rfl

/-- The address of a place of the control block that CTLSEL selects (R145). -/
def State.controlPlace (s : State) (offset : Nat) : Addr :=
  BitVec.ofNat 36 (s.pins.ctlsel.toNat * 2 ^ 32 + 2 ^ 32 - 4096 + offset)

theorem controlPlace_eq (s : State) (offset : Nat) :
    s.controlPlace offset = BitVec.ofNat 36 (controlBase s.pins.ctlsel + offset) := by
  rw [State.controlPlace, controlBase_eq]

/-! ## Bytes -/

/-- The four bytes of a word, the lowest first. -/
def wordBytes (v : Word) : List Byte := [v.extractLsb' 0 8, v.extractLsb' 8 8, v.extractLsb' 16 8, v.extractLsb' 24 8]

/-- A byte of a half word is the byte of the word. -/
theorem extractLsb'_half (v : Word) (i j : Nat) (h : j + 8 ≤ 16) :
    (v.extractLsb' i 16).extractLsb' j 8 = v.extractLsb' (i + j) 8 := by
  apply BitVec.eq_of_getLsbD_eq
  intro k hk
  rw [BitVec.getLsbD_extractLsb', BitVec.getLsbD_extractLsb', BitVec.getLsbD_extractLsb',
    decide_eq_true (by omega : j + k < 16), Bool.true_and, Nat.add_assoc]

theorem bytesOf32_eq (v : Word) : bytesOf32 v = wordBytes v := by
  simp only [bytesOf32, bytesOf16, extractLsb'_half v _ _ (by decide : 0 + 8 ≤ 16),
    extractLsb'_half v _ _ (by decide : 8 + 8 ≤ 16)]
  rfl

/-- A mask of 16 bits in four bytes has its upper two 0 (R173). -/
theorem bytesOf32_setWidth (v : BitVec 16) : bytesOf32 (v.setWidth 32) = bytesOf16 v ++ [0, 0] := by
  have low : (v.setWidth 32).extractLsb' 0 16 = v := by
    apply BitVec.eq_of_toNat_eq
    rw [BitVec.extractLsb'_toNat, BitVec.toNat_setWidth, Nat.shiftRight_zero]
    omega
  have high : (v.setWidth 32).extractLsb' 16 16 = 0#16 := by
    apply BitVec.eq_of_toNat_eq
    rw [BitVec.extractLsb'_toNat, BitVec.toNat_setWidth, Nat.shiftRight_eq_div_pow, BitVec.toNat_ofNat]
    omega
  rw [bytesOf32, low, high]
  rfl

/-- The sixteen bytes of a record (R163). -/
def Record.layout (c : Record) : List Byte :=
  [BitVec.ofNat 8 c.kind.code, c.ring] ++ bytesOf16 c.berth ++ bytesOf16 c.seq ++ [c.initiator, c.detail] ++
    wordBytes c.time ++ wordBytes c.extra

theorem bytes_eq_layout (c : Record) : c.bytes = c.layout := by
  rw [Record.bytes, bytesOf32_eq, bytesOf32_eq, Record.layout]

/-! ## The Report Engine's requests -/

section

variable (s : State)

theorem reportRequest_headWord : s.reportRequest .headWord = ⟨.report .headWord, s.controlPlace 0x310, 8,
    some (bytesOf16 (BitVec.ofNat 16 s.report.head) ++ [0, 0, 0, 0, 0, 0])⟩ := by
  rw [controlPlace_eq]
  rfl

theorem reportRequest_record {d : DeviceProfile} {c : Record} {rest : List Record} (device : s.control.device = some d)
    (buffer : s.report.buffer = c :: rest) : s.reportRequest .record =
      ⟨.report .record, BitVec.ofNat 36 (d.reportBase.toNat + 16 * s.report.head), 16, some c.layout⟩ := by
  rw [← bytes_eq_layout]
  simp only [State.reportRequest, State.recordPlace, device, buffer, List.head?_cons, Option.map_some]

theorem reportRequest_dropped {d : DeviceProfile} (device : s.control.device = some d) (n : Word) :
    s.reportRequest (.dropped n) = ⟨.report (.dropped n), BitVec.ofNat 36 (d.reportBase.toNat + 16 * s.report.head), 16,
      some (droppedRecord s.timeBase.now n).layout⟩ := by
  rw [← bytes_eq_layout]
  simp only [State.reportRequest, State.recordPlace, device]

/-- Parts 1 to 8 are the rings' counters (R173, R175). -/
theorem reportRequest_counters (r : RingId) : s.reportRequest (.snapshotPart (r.val + 1)) =
    ⟨.report (.snapshotPart (r.val + 1)), s.controlPlace (0x800 + 64 * r.val), 64,
      some (s.report.copy.counters[r].values.toList.flatMap wordBytes)⟩ := by
  have other : r.val + 1 ≠ 9 := by omega
  have words : bytesOf32 = wordBytes := funext bytesOf32_eq
  simp only [State.reportRequest, snapshotPartOffset, SnapshotCopy.partBytes, if_neg other, Nat.add_sub_cancel,
    controlPlace_eq, CounterSet.bytes, words, Vector.getElem?_eq_getElem r.isLt, Option.getD_some, Fin.getElem_fin]

/-- Part 9 is the overflow masks, the period number and the time (R173, R175). -/
theorem reportRequest_masks : s.reportRequest (.snapshotPart 9) = ⟨.report (.snapshotPart 9), s.controlPlace 0xA00, 40,
    some ((s.report.copy.counters.toList.flatMap fun k => bytesOf16 k.overflow ++ [0, 0]) ++
      wordBytes s.report.copy.period ++ wordBytes s.report.copy.time)⟩ := by
  simp only [State.reportRequest, snapshotPartOffset, SnapshotCopy.partBytes, if_true, controlPlace_eq, bytesOf32_setWidth]
  rw [bytesOf32_eq, bytesOf32_eq]

/-! ## The loader's requests -/

theorem loaderRequest_readBlock (l : Load) (k : Nat) : s.loaderRequest l (.readBlock k) =
    ⟨.loader (.readBlock k), s.controlPlace (64 * k), 64, none⟩ := by
  rw [controlPlace_eq]
  rfl

theorem loaderRequest_headWord (l : Load) : s.loaderRequest l .headWord =
    ⟨.loader .headWord, s.controlPlace 0x310, 8, some [0, 0, 0, 0, 0, 0, 0, 0]⟩ := by
  rw [controlPlace_eq]
  rfl

end

theorem getLsbD_ringBit : ∀ j k : RingId, (1#8 <<< j.val).getLsbD k.val = (j == k) := by decide

/-- The bits set along a list of rings are those of its rings that meet the condition. -/
theorem getLsbD_foldl_rings (p : RingId → Prop) [DecidablePred p] (l : List RingId) (m : Byte) (r : RingId) :
    (l.foldl (fun m j => if p j then m ||| (1#8 <<< j.val) else m) m).getLsbD r.val = true ↔
      m.getLsbD r.val = true ∨ r ∈ l ∧ p r := by
  induction l generalizing m with
  | nil => simp
  | cons j l ih =>
    rw [List.foldl_cons, ih, List.mem_cons]
    split
    · next meets =>
      rw [BitVec.getLsbD_or, getLsbD_ringBit, Bool.or_eq_true, beq_iff_eq, or_assoc, or_and_right]
      refine or_congr_right (or_congr_left ⟨fun same => ⟨same.symm, same ▸ meets⟩, fun same => same.1.symm⟩)
    · next fails =>
      refine or_congr_right (and_congr_left fun meets => ⟨.inr, fun mem => mem.resolve_left ?_⟩)
      rintro rfl
      exact fails meets

/-- The bits set along all rings. -/
theorem getLsbD_foldl_allRings (p : RingId → Prop) [DecidablePred p] (r : RingId) :
    (allRings.foldl (fun m j => if p j then m ||| (1#8 <<< j.val) else m) 0#8).getLsbD r.val = true ↔ p r := by
  rw [getLsbD_foldl_rings, BitVec.getLsbD_zero]
  exact ⟨fun h => (h.resolve_left Bool.false_ne_true).2, fun h => .inr ⟨mem_allRings r, h⟩⟩

theorem getLsbD_validMask (s : State) (r : RingId) : s.validMask.getLsbD r.val = true ↔ s.rings[r].validity = .valid :=
  getLsbD_foldl_allRings (fun r : RingId => s.rings[r].validity = .valid) r

theorem getLsbD_verdictMask (l : Load) (r : RingId) : l.verdictMask.getLsbD r.val = true ↔ l.verdict[r].isSome = true :=
  getLsbD_foldl_allRings (fun r : RingId => l.verdict[r].isSome = true) r

/-- The valid-ring mask that the status word carries (R151). -/
def Load.statusValid (l : Load) (s : State) : Byte := if l.result = some .accepted then l.verdictMask else s.validMask

/-- The enabled-ring mask that the status word carries (R151). -/
def Load.statusEnabled (l : Load) : Byte :=
  if l.result = some .accepted then l.verdictMask &&& byteAt l.image 6 else 0

theorem getLsbD_statusValid (l : Load) (s : State) (r : RingId) : (l.statusValid s).getLsbD r.val = true ↔
    if l.result = some .accepted then l.verdict[r].isSome = true else s.rings[r].validity = .valid := by
  unfold Load.statusValid
  split
  · exact getLsbD_verdictMask l r
  · exact getLsbD_validMask s r

theorem getLsbD_statusEnabled (l : Load) (r : RingId) : l.statusEnabled.getLsbD r.val = true ↔
    l.result = some .accepted ∧ l.verdict[r].isSome = true ∧ (byteAt l.image 6).getLsbD r.val = true := by
  unfold Load.statusEnabled
  split
  · next accepted =>
    rw [BitVec.getLsbD_and, Bool.and_eq_true, getLsbD_verdictMask]
    exact (and_iff_right accepted).symm
  · next other =>
    rw [BitVec.ofNat_eq_ofNat, BitVec.getLsbD_zero]
    exact ⟨fun h => absurd h Bool.false_ne_true, fun h => absurd h.1 other⟩

theorem loaderRequest_statusWord (s : State) {l : Load} {result : LoadResult} (h : l.result = some result) :
    s.loaderRequest l .statusWord = ⟨.loader .statusWord, s.controlPlace 0x308, 8,
      some ([result.code, l.statusValid s, l.statusEnabled, l.kind.code] ++ wordBytes (s.control.loadCount + 1))⟩ := by
  have code : l.resultCode = result.code := by rw [Load.resultCode, h]
  rw [controlPlace_eq, ← bytesOf32_eq]
  unfold State.loaderRequest State.statusWordBytes Load.statusValid Load.statusEnabled
  rw [code]
  dsimp only
  split <;> rfl

/-! ## Every grant -/

/-- Settles O43, source by source. -/
theorem grantGoesToTheNextSource : Obligations.GrantGoesToTheNextSource := by
  refine ⟨fun s x hl he room turn => ?_, fun s => ?_⟩
  · have row := exec_arbiterGrant hl he room turn
    have requests : s.requests x = true := List.find?_some turn
    refine ⟨?_, ?_, ?_, ?_⟩
    · rintro rfl
      obtain ⟨e, head⟩ := Option.isSome_iff_exists.mp requests
      obtain ⟨waits, before, rest, queue, issued⟩ := waitingHead_some head
      exact ⟨before, e, rest, queue, issued, waits, row.trans (congrArg _ (grantTo_passThrough queue head issued waits))⟩
    · rintro rfl
      obtain ⟨-, j, rest, queue, -⟩ := (requests_verify_iff s).mp requests
      exact ⟨j, rest, queue, row.trans (congrArg _ (grantTo_verify queue))⟩
    · rintro rfl
      obtain ⟨-, -, due⟩ := (requests_report_iff s).mp requests
      obtain ⟨y, next⟩ := Option.ne_none_iff_exists'.mp due
      exact ⟨y, next, row.trans (congrArg _ (grantTo_report next))⟩
    · rintro rfl
      obtain ⟨y, found⟩ := Option.isSome_iff_exists.mp requests
      obtain ⟨l, load, next⟩ := loaderNext_eq_some_iff.mp found
      exact ⟨l, y, load, next, row.trans (congrArg _ (grantTo_loader load next))⟩
  · intro due next
    refine ⟨requests_report_iff s, reportNext_owed, fun free =>
      ⟨fun n k writing left => reportNext_part free writing left, fun done => reportNext_record free done⟩, rfl, rfl,
      fun _ => rfl, fun n m k writing => issued_snapshotPart n writing, rfl, rfl, rfl, rfl, requests_passThrough_iff s,
      requests_verify_iff s, requests_loader_iff s, fun e => ?_, fun j => ⟨rfl, rfl⟩, ?_⟩
    · rw [PassEntry.request]
      cases e.body <;> rfl
    intro at36 half word layout
    refine ⟨reportRequest_headWord s, fun d device => ⟨fun c rest buffer => reportRequest_record s device buffer,
      fun n => reportRequest_dropped s device n⟩, reportRequest_counters s, reportRequest_masks s, fun l =>
      ⟨next_reading, next_headWord, next_statusWord, fun k => ⟨rfl, loaderRequest_readBlock s l k⟩, rfl, rfl,
        loaderRequest_headWord s l, fun result decided => ⟨l.statusValid s, l.statusEnabled, ?_, fun r => ⟨?_, ?_⟩⟩⟩⟩
    · exact loaderRequest_statusWord s decided
    · simp only [getLsbD_statusValid, decided, Option.some.injEq]
    · rw [getLsbD_statusEnabled, decided, Option.some.injEq]

end Sys2Proof.Machine
end

-- ==== Every command answers ====
section
/-! PROOFS. No command and no step stops the part (log entries 3 and 12); a transaction waits at a closed port, and a MALFORMED
one is answered at its arrival (R122, R123). -/

namespace Sys2Proof.Machine

open Sys2Proof Sys2Proof.Config

/-! ## The rows and the step -/

/-- Every upstream row presents its transaction, whatever the row's name (R122, log entry 8). -/
theorem exec_transaction {i : Instr} {x : Transaction} (s : State) (h : i.transaction? = some x) :
    exec i s = .next (s.present x) := by
  cases i with
  | startWrite w | continuationWrite w | foreignWrite w | plainWrite w | cursorWrite w | tailWordWrite w
  | controlBlockWrite w | ringEnable w | ringDisable w | ringReset w | reframe w | attach w | detach w | snapshot w
  | reload w | unknownCommand w => cases h; rfl
  | consumerRead t | uncheckedRead t => cases h; rfl
  | _ => cases h

/-- Every command has a next state: that of an event, of a presented transaction, of a pin or tick, or of one grant or
entry (log entry 3). -/
theorem exec_answersNext (i : Instr) (s : State) : ∃ t, exec i s = .next t := by
  cases carried : i.transaction? with
  | some x => exact ⟨s.present x, exec_transaction s carried⟩
  | none =>
    cases i with
    | deviceReset => exact ⟨s.due.deviceReset, rfl⟩
    | resetRelease ctlsel => exact ⟨s.due.release ctlsel, rfl⟩
    | wenFall | wenRise => exact ⟨_, rfl⟩
    | timeBaseTick => exact ⟨s.tick, rfl⟩
    | arbiterGrant => exact ⟨s.entriesDue.grant, rfl⟩
    | releasedReadEntry => exact ⟨s.enterReleased.drainLink, rfl⟩
    | passThroughCompletion _ | trackedWriteCompletion _ | verifyReadCompletion _ | reportWriteCompletion _
    | loaderReadCompletion _ | loaderWriteCompletion _ | quietTimerExpiry _ | holdDeadline _ _ | periodTimerExpiry =>
      exact ⟨s.event _, rfl⟩
    | _ => cases carried

/-- An empty queue idles (log entry 12). -/
theorem step_empty {s : State} (h : s.pending = []) : step s = .next s := by
  rw [step, h]

theorem step_front {s : State} {c : Instr} {rest : List Instr} (h : s.pending = c :: rest) :
    step s = exec c (s.withPending rest) := by
  rw [step, h]

/-- Settles O2: command by command, and for a step by whether one waits. -/
theorem everyStepAnswersNext : Obligations.EveryStepAnswersNext := by
  refine ⟨exec_answersNext, fun s => ?_⟩
  cases queue : s.pending with
  | nil => exact ⟨s, step_empty queue, fun _ => rfl⟩
  | cons c rest =>
    obtain ⟨t, answer⟩ := exec_answersNext c (s.withPending rest)
    exact ⟨t, (step_front queue).trans answer, fun empty => absurd empty (List.cons_ne_nil c rest)⟩

/-! ## Transactions that the port does not take or does not judge -/

theorem decide_malformedRead {s : State} {t : ReadTx} (h : s.malformed t.initiator t.tag t.address t.length = true) :
    s.decide (.read t) = s.respond t.initiator t.tag .malformed [] := by
  rw [State.decide, if_pos h, State.answer]

theorem decide_malformedWrite {s : State} {w : WriteTx} (h : s.malformed w.initiator w.tag w.address w.length = true) :
    s.decide (.write w) = s.respond w.initiator w.tag .malformed [] := by
  rw [State.decide, if_pos h]

/-- A transaction decided by its response alone releases no read: nothing follows its arrival (R100, R125). -/
theorem exec_responded {i : Instr} {x : Transaction} {s : State} {initiator : Initiator} {tag : Tag} {code : ResponseCode}
    {data : List Byte} (carried : i.transaction? = some x) (isOpen : s.portOpen)
    (decided : s.decide x = s.respond initiator tag code data) :
    exec i s = .next (s.respond initiator tag code data) := by
  rw [exec_arrival i x s carried isOpen, decided, settleReleases_none s (s.respond initiator tag code data) rfl]

/-- Settles O14: a closed port leaves the transaction on the link, and a MALFORMED one is decided by its response. -/
theorem closedPortAndMalformedTransactions : Obligations.ClosedPortAndMalformedTransactions := by
  intro i s
  refine ⟨fun x carried calm closed => ?_, fun isOpen t carried malformed => ?_, fun isOpen w carried malformed => ?_⟩
  · rw [exec_transaction s carried, present_closed s x calm closed, State.modLink]
  · exact exec_responded carried isOpen (decide_malformedRead malformed)
  · exact exec_responded carried isOpen (decide_malformedWrite malformed)

end Sys2Proof.Machine
end

-- ==== What every command leaves ====
section
/-! PROOFS. The queue of commands, the pins and the microsecond count: the rows of the pins and the tick write what they name,
and every other command leaves all three (R134, R160). -/

namespace Sys2Proof.Machine

open Sys2Proof Sys2Proof.Config

theorem kept_entriesDue (s : State) : s.entriesDue.kept = s.kept := by
  rw [State.entriesDue, kept_drainLink, kept_of_outer (outer_enterReleases _)]

/-- A release of RESET_N changes pins and the load alone (R145, R156). -/
theorem release_frame (ctlsel : BitVec 4) (s : State) :
    (s.release ctlsel).pending = s.pending ∧ (s.release ctlsel).timeBase = s.timeBase := by
  unfold State.release
  split <;> exact ⟨rfl, rfl⟩

/-- A tick leaves the queue of commands and the pins, whatever expires in its microsecond (R160). -/
theorem tick_frame (s : State) : s.tick.pending = s.pending ∧ s.tick.pins = s.pins := by
  have expired : s.due.expireDue.due.kept = s.kept := by rw [kept_due, kept_expireDue, kept_due]
  unfold State.tick
  split
  · rw [pending_modTimeBase, pins_modTimeBase]
    exact ⟨pending_of_kept expired, pins_of_kept expired⟩
  · exact ⟨pending_due s, pins_due s⟩

theorem kept_of_next {s t u : State} (ran : (.next u : Host.Outcome State Fault Refusal) = .next t)
    (h : u.kept = s.kept) : t.kept = s.kept :=
  Host.Outcome.next.inj ran ▸ h

/-- Neither a transaction nor an event, a grant or an entry changes the queue of commands, a pin or the count. -/
theorem kept_exec {i : Instr} {s t : State} (ran : exec i s = .next t) (notReset : i ≠ .deviceReset)
    (notRelease : ∀ c, i ≠ .resetRelease c) (notFall : i ≠ .wenFall) (notRise : i ≠ .wenRise)
    (notTick : i ≠ .timeBaseTick) : t.kept = s.kept := by
  cases carried : i.transaction? with
  | some x => exact kept_of_next ((exec_transaction s carried).symm.trans ran) (kept_present s x)
  | none =>
    cases i with
    | deviceReset => exact absurd rfl notReset
    | resetRelease ctlsel => exact absurd rfl (notRelease ctlsel)
    | wenFall => exact absurd rfl notFall
    | wenRise => exact absurd rfl notRise
    | timeBaseTick => exact absurd rfl notTick
    | arbiterGrant => exact kept_of_next ran ((kept_of_outer (outer_grant _)).trans (kept_entriesDue s))
    | releasedReadEntry => exact kept_of_next ran ((kept_drainLink _).trans (kept_of_outer (outer_enterReleased s)))
    | passThroughCompletion m => exact kept_of_next ran (kept_event s _ (outer_completePassThrough _ m))
    | trackedWriteCompletion fault => exact kept_of_next ran (kept_event s _ (outer_completeTrackedWrite _ fault))
    | verifyReadCompletion m => exact kept_of_next ran (kept_event s _ (outer_completeVerifyRead _ m))
    | reportWriteCompletion fault => exact kept_of_next ran (kept_event s _ (outer_completeReportWrite _ fault))
    | loaderReadCompletion m => exact kept_of_next ran (kept_event s _ (outer_completeProfileRead _ m))
    | loaderWriteCompletion fault => exact kept_of_next ran (kept_event s _ (outer_completeLoadWrite _ fault))
    | quietTimerExpiry r => exact kept_of_next ran (kept_event s _ (outer_expireQuietIfDue _ r))
    | holdDeadline initiator tag => exact kept_of_next ran (kept_event s _ (outer_expireHoldOf _ initiator tag))
    | periodTimerExpiry => exact kept_of_next ran (kept_event s _ (outer_expirePeriodIfDue _))
    | _ => cases carried

/-- Settles O3: the five rows that name a pin or the count one by one, the others by what they keep. -/
theorem commandsLeaveQueuePinsAndCount : Obligations.CommandsLeaveQueuePinsAndCount := by
  intro i s t ran
  cases i with
  | deviceReset =>
    obtain rfl := Host.Outcome.next.inj ran
    exact ⟨pending_due s, fun _ notReset => absurd rfl notReset, fun notReset => absurd rfl notReset⟩
  | resetRelease ctlsel =>
    obtain rfl := Host.Outcome.next.inj ran
    obtain ⟨queue, time⟩ := release_frame ctlsel s.due
    exact ⟨queue.trans (pending_due s), fun _ _ => (congrArg TimeBase.now time).trans (now_due s),
      fun _ _ _ notRelease => absurd rfl (notRelease ctlsel)⟩
  | wenFall =>
    obtain rfl := Host.Outcome.next.inj ran
    exact ⟨pending_due s, fun _ _ => now_due s, fun _ notFall => absurd rfl notFall⟩
  | wenRise =>
    obtain rfl := Host.Outcome.next.inj ran
    exact ⟨pending_due s, fun _ _ => now_due s, fun _ _ notRise => absurd rfl notRise⟩
  | timeBaseTick =>
    obtain rfl := Host.Outcome.next.inj ran
    obtain ⟨queue, pins⟩ := tick_frame s
    exact ⟨queue, fun notTick => absurd rfl notTick, fun _ _ _ _ => pins⟩
  | _ =>
    have kept : t.kept = s.kept := kept_exec ran nofun nofun nofun nofun nofun
    exact ⟨pending_of_kept kept, fun _ _ => now_of_kept kept, fun _ _ _ _ => pins_of_kept kept⟩

end Sys2Proof.Machine
end

-- ==== FAULT_HELD rings ====
section
/-! PROOFS. A FAULT_HELD ring: a write into its window (R141), and what the ring commands and RELOAD answer at it (R142). -/

namespace Sys2Proof.Machine

open Sys2Proof Sys2Proof.Config

/-- A write into the window of a FAULT_HELD ring is refused and counted, and releases no read (R100, R141). -/
theorem exec_heldWrite {i : Instr} {w : WriteTx} {s : State} {r : RingId} {b offset : Nat}
    (held : s.rings[r].opState = .faultHeld) (carried : i.transaction? = some (.write w)) (taken : s.takesWrite w)
    (area : s.classify w.address = .window r b offset) :
    exec i s = .next ((s.respond w.initiator w.tag .refused []).count r .writesRefused) := by
  rw [exec_write_routed i w s carried taken, area, State.routeWrite, State.writeWindow, held]
  exact congrArg _ (settleReleases_none s (s.refuseHeld r w) rfl)

/-- A ring that is reset or enabled is ACTIVE (R4, R6). -/
theorem opState_enableRing (s : State) (r : RingId) : (s.enableRing r).rings[r].opState = .active := by
  rw [State.enableRing, ring_modRing_same, RingRecord.enabled]

/-- DETACH leaves every ring in its operating state (R80). -/
theorem opState_detachSlot (s : State) (r q : RingId) (k : SlotId) :
    (s.detachSlot r k).rings[q].opState = s.rings[q].opState :=
  congrArg (·.1) (((Calm.refl ∅ s).detachSlot r k).stand q (Set.notMem_empty q))

/-- Settles O30: the refused write, then command by command. -/
theorem aHeldRing : Obligations.AHeldRing := by
  intro s r held
  have enabled : s.rings[r].opState ≠ .disabled := by rw [held]; exact nofun
  refine ⟨fun i w b offset carried taken area => exec_heldWrite held carried taken area, fun slot c valid small =>
    ⟨ringEnable_faultHeld valid held, ringDisable_faultHeld valid held, ⟨_, ringReset_taken valid enabled, ?_⟩,
      reframe_faultHeld valid held, ?_, fun k named attached => ⟨_, detach_attached valid named enabled attached, ?_⟩,
      beginReload_refused s c r enabled⟩⟩
  · exact opState_enableRing _ r
  · exact attach_faultHeld valid (slotOfByte_eq (k := ⟨slot.toNat, small⟩) rfl) held
  · rw [opState_detachSlot, held]

end Sys2Proof.Machine
end

-- ==== Loader completions ====
section
/-! PROOFS. LOADER_READ_COMPLETION and LOADER_WRITE_COMPLETION: what a profile read makes of its load (R148, R149, R152), the
head word, and the end of a load that is not accepted (R153, R155). -/

namespace Sys2Proof.Machine

open Sys2Proof Sys2Proof.Config

/-! ## The oldest request, a loader step -/

theorem retire_of_inFlight {s : State} {q : Request} {rest : List Request} (hq : s.port.inFlight = q :: rest) :
    s.retire = { s with port := { s.port with inFlight := rest } } := by
  rw [State.retire, State.modPort, hq, List.tail_cons]

theorem oldestStep_of_loader {s : State} {q : Request} {rest : List Request} {x : LoaderStep}
    (hq : s.port.inFlight = q :: rest) (ho : q.origin = .loader x) : s.oldestStep = some x := by
  rw [State.oldestStep, hq, List.head?_cons]
  dsimp only
  rw [ho]

/-- Memory completes the oldest request, a profile read: the load takes what it brings (R152). -/
theorem completeProfileRead_oldest {s : State} {q : Request} {rest : List Request} {k : Nat}
    (hq : s.port.inFlight = q :: rest) (ho : q.origin = .loader (.readBlock k)) (m : MemResult) :
    s.completeProfileRead m = s.retire.completeLoaderRead m := by
  rw [State.completeProfileRead, oldestStep_of_loader hq ho]

/-- The state in which the oldest request has left the port and a load stands in the load's place (R128, R152). -/
def State.loadBecomes (s : State) (rest : List Request) (l : Load) : State :=
  { s with port := { s.port with inFlight := rest }, control := { s.control with load := some l } }

section

variable {s : State} {q : Request} {rest : List Request} {l : Load} (hq : s.port.inFlight = q :: rest)
  (hl : s.control.load = some l)

include hq hl

theorem modLoad_retire (f : Load → Load) : s.retire.modLoad f = s.loadBecomes rest (f l) := by
  rw [retire_of_inFlight hq, State.modLoad, State.modControl, State.loadBecomes]
  dsimp only
  rw [hl, Option.map_some]

/-- Memory completes the oldest request, the head word's write (R153). -/
theorem completeLoadWrite_headWord (ho : q.origin = .loader .headWord) (fault : Bool) :
    s.completeLoadWrite fault = s.loadBecomes rest (l.headCompleted fault) := by
  rw [State.completeLoadWrite, oldestStep_of_loader hq ho]
  dsimp only
  rw [State.completeLoaderWrite, control_retire, hl]
  exact modLoad_retire hq hl _

/-- Memory completes the oldest request, the status word's write: the load ends (R153). -/
theorem completeLoadWrite_statusWord (ho : q.origin = .loader .statusWord) (fault : Bool) :
    s.completeLoadWrite fault = s.retire.endLoad (l.statusCompleted fault) := by
  rw [State.completeLoadWrite, oldestStep_of_loader hq ho]
  dsimp only
  rw [State.completeLoaderWrite, control_retire, hl]

end

/-- A completion that puts a load in the load's place lets nothing in (R122). -/
theorem event_loadBecomes {s : State} {f : State → State} {rest : List Request} {l : Load} (hd : s.nothingDue)
    (hf : f s = s.loadBecomes rest l) : s.event f = s.loadBecomes rest l :=
  (event_of_admission hd (hf ▸ rfl) (hf ▸ rfl)).trans hf

/-! ## What a profile read makes of its load -/

/-- The data of a read of a load whose result is open is kept (R152). -/
theorem takeRead_undecided {l : Load} (h : l.result = none) (data : List Byte) :
    l.takeRead data = { l with completed := l.completed + 1, image := l.image ++ data.take 64 } := by
  rw [Load.takeRead, h]
  rfl

/-- The data of a read of a load whose result is decided is discarded (R152). -/
theorem takeRead_decided {l : Load} (h : l.result ≠ none) (data : List Byte) :
    l.takeRead data = { l with completed := l.completed + 1 } := by
  rw [Load.takeRead, Option.isNone_eq_false_iff.mpr (Option.isSome_iff_ne_none.mpr h)]
  rfl

/-- While reads are missing and no result is decided, the reading phase goes on (R152). -/
theorem afterRead_more {l : Load} (ctlsel : BitVec 4) (h : l.result = none) (more : l.completed ≠ 11) :
    l.afterRead ctlsel = l := by
  rw [Load.afterRead, h]
  exact if_neg more

/-- After the last good read the image is judged (R152). -/
theorem afterRead_last {l : Load} (ctlsel : BitVec 4) (h : l.result = none) (last : l.completed = 11) :
    l.afterRead ctlsel = l.judge ctlsel := by
  rw [Load.afterRead, h]
  exact if_pos last

/-- With its result decided, a load begins to write once no read is outstanding (R152). -/
theorem afterRead_decided {l : Load} (ctlsel : BitVec 4) (h : l.result ≠ none) :
    l.afterRead ctlsel = { l with phase := if l.completed = l.issued then .statusWord false else l.phase } := by
  rw [Load.afterRead, if_pos (Option.isSome_iff_ne_none.mpr h)]
  split <;> rfl

/-- The judgment of a whole image, in its order: the check word, the device profile, the rings (R148 to R150). -/
theorem judge_eq (l : Load) (ctlsel : BitVec 4) : l.judge ctlsel =
    if crcOf (l.image.take 0x280) ≠ le32At l.image 0x280 then
      { l with result := some .rejectedCheck, phase := .statusWord false }
    else if deviceOk ctlsel l.image = false then
      { l with result := some .rejectedDevice, phase := .statusWord false }
    else
      { l with result := some .accepted, verdict := validOffsets ctlsel l.image, phase := .headWord false } := by
  rw [Load.judge, judgeImage, checkWordOk]
  by_cases check : crcOf (l.image.take 0x280) = le32At l.image 0x280
  · rw [if_neg (not_not.mpr check), beq_iff_eq.mpr check]
    cases deviceOk ctlsel l.image <;> rfl
  · rw [if_pos check, beq_eq_false_iff_ne.mpr check]
    rfl

/-- Settles O51: the load that the completion leaves, by the load's result and the number of its reads. -/
theorem profileReadsFillTheImage : Obligations.ProfileReadsFillTheImage := by
  intro s q rest k l data hq ho hl hd left taken ended
  have row {m : MemResult} {next : Load} (h : s.retire.completeLoaderRead m = s.loadBecomes rest next) :
      exec (.loaderReadCompletion m) s = .next (left next) :=
    congrArg _ (event_loadBecomes hd ((completeProfileRead_oldest hq ho m).trans h))
  have okay {kept next : Load} (h : l.takeRead data = kept) (after : kept.afterRead s.pins.ctlsel = next) :
      exec (.loaderReadCompletion (.okay data)) s = .next (left next) :=
    row ((modLoad_retire hq hl fun l => (l.takeRead data).afterRead s.pins.ctlsel).trans (by rw [h, after]))
  have faulted {next : Load} (after : l.takeFault.afterRead s.pins.ctlsel = next) :
      exec (.loaderReadCompletion .memfault) s = .next (left next) :=
    row ((modLoad_retire hq hl fun l => l.takeFault.afterRead s.pins.ctlsel).trans (by rw [after]))
  refine ⟨fun undecided more => ?_, fun undecided last => ?_, fun decided => ?_, ?_⟩
  · exact okay (takeRead_undecided undecided data) (afterRead_more _ undecided more)
  · exact okay (takeRead_undecided undecided data)
      ((afterRead_last (l := taken) _ undecided last).trans (judge_eq taken _))
  · exact okay (takeRead_decided decided data) (afterRead_decided _ decided)
  · exact faulted (afterRead_decided (l := l.takeFault) _ (Option.some_ne_none _))

/-! ## The end of a load that is not accepted -/

/-- A load whose status word write is completed is no longer ACCEPTED if that write faulted (R153). -/
theorem statusCompleted_result_ne {l : Load} {fault : Bool} (h : l.result = some .accepted → fault = true) :
    (l.statusCompleted fault).result ≠ some .accepted := by
  unfold Load.statusCompleted
  split
  · nofun
  · next kept => exact fun accepted => kept ⟨h accepted, accepted⟩

/-- The status word's completion bears on the load's result alone. -/
theorem statusCompleted_eq (l : Load) (fault : Bool) :
    l.statusCompleted fault = { l with result := (l.statusCompleted fault).result } := by
  unfold Load.statusCompleted
  split <;> rfl

/-- The code of a load that is not accepted, or whose status word write faulted (R151, R153). -/
theorem statusCompleted_code {l : Load} {fault : Bool} (h : l.result = some .accepted → fault = true) :
    (l.statusCompleted fault).resultCode = if l.result = some .accepted then 4 else l.resultCode := by
  by_cases accepted : l.result = some .accepted
  · rw [if_pos accepted, Load.statusCompleted, if_pos ⟨h accepted, accepted⟩]
    rfl
  · rw [if_neg accepted, Load.statusCompleted, if_neg fun faulted => accepted faulted.2]

/-- The state in which a load that is not accepted has ended, before its records: the profile in force stays, and a head
word that the load has written is owed again (R153, R155, R163). -/
def State.loadEnded (s : State) (l : Load) (attention : Bool) : State :=
  { s with
    control := ⟨s.control.device, .idle, s.control.loadCount + 1, attention, none⟩
    report := if l.headWritten then { s.report with headOwed := true } else s.report }

/-- A start-up load that is not accepted sets the load attention flag (R155). -/
theorem endLoad_startUp {s : State} {l : Load} (rejected : l.result ≠ some .accepted) (kind : l.kind = .startUp) :
    s.endLoad l = s.loadEnded l true := by
  rw [State.endLoad, if_neg rejected, State.reject, kind, State.loadEnded]
  cases l.headWritten <;> rfl

/-- A RELOAD that is not accepted raises LOAD_DONE and COMMAND_DONE (R155, R158). -/
theorem endLoad_reload {s : State} {l : Load} {writer : Initiator} {slot : Byte} (rejected : l.result ≠ some .accepted)
    (kind : l.kind = .reload writer slot) :
    s.endLoad l = ((s.loadEnded l s.control.attention).raise
      { kind := .loadDone, initiator := initiatorField writer, detail := l.resultCode
        extra := s.control.loadCount + 1 }).raise
      { kind := .commandDone, initiator := initiatorField writer, extra := (slot ++ (8 : Byte)).setWidth 32 } := by
  rw [State.endLoad, if_neg rejected, State.reject, kind, State.loadEnded]
  dsimp only
  rw [State.raiseLoadDone, kind]
  cases l.headWritten <;> rfl

/-- Settles O54: the head word's completion lets nothing in, and the status word's ends the load by its kind. -/
theorem loaderWritesAndRejectedLoads : Obligations.LoaderWritesAndRejectedLoads := by
  intro s q rest l fault hq hl hd
  refine ⟨fun ho => congrArg _ (event_loadBecomes hd (completeLoadWrite_headWord hq hl ho fault)), fun ho rejects => ?_⟩
  have rejected := statusCompleted_result_ne rejects
  have same := statusCompleted_eq l fault
  have ends (attention : Bool) : s.retire.loadEnded (l.statusCompleted fault) attention =
      { s.loadEnded l attention with port := { s.port with inFlight := rest } } := by
    rw [retire_of_inFlight hq, same]
    rfl
  have row {t : State} (ended : s.retire.endLoad (l.statusCompleted fault) = t) (holds : t.holds = s.holds) :
      exec (.loaderWriteCompletion fault) s = .next t.drainLink := by
    have effect := (completeLoadWrite_statusWord hq hl ho fault).trans ended
    refine (congrArg Host.Outcome.next (event_nothingDue s _ hd)).trans ?_
    rw [effect, settleReleases_none s t holds]
  intro code ended
  have coded : (l.statusCompleted fault).resultCode = code := by
    rw [statusCompleted_code rejects, Load.resultCode]
    dsimp only [code]
    cases l.result with
    | none => rfl
    | some x => cases x <;> rfl
  refine ⟨fun kind => row ?_ rfl, fun writer slot kind => row ?_ ?_⟩
  · rw [endLoad_startUp rejected (by rw [same]; exact kind), ends]
    rfl
  · rw [endLoad_reload (writer := writer) (slot := slot) rejected (by rw [same]; exact kind), ends, coded]
    rfl
  · rw [holds_raise, holds_raise]

end Sys2Proof.Machine
end

-- ==== Snapshots ====
section
/-! PROOFS. Snapshot requests, by SNAPSHOT and by PERIOD_TIMER_EXPIRY (R158, R174, R175). -/

namespace Sys2Proof.Machine

open Sys2Proof Sys2Proof.Config

/-! ## A request -/

/-- With no write-out under way a request makes the copy (R174). -/
theorem requestSnapshot_idle {s : State} (h : s.report.writeOut = .idle) : s.requestSnapshot = s.startSnapshot := by
  rw [State.requestSnapshot, h]

/-- With a write-out under way a request waits (R174). -/
theorem requestSnapshot_writing {s : State} (h : s.report.writeOut ≠ .idle) :
    s.requestSnapshot = s.modReport fun e => { e with snapshotPending := true } := by
  rw [State.requestSnapshot]
  split
  · next idle => exact absurd idle h
  · rfl

/-- A request bears on the report and the counters alone (R174, R175). -/
theorem requestSnapshot_frame (s : State) :
    s.requestSnapshot = { s with report := s.requestSnapshot.report, counters := s.requestSnapshot.counters } := by
  by_cases idle : s.report.writeOut = .idle
  · rw [requestSnapshot_idle idle]
    rfl
  · rw [requestSnapshot_writing idle]
    rfl

/-! ## The two rows -/

/-- SNAPSHOT requests a snapshot and is COMMAND_DONE (R158, R174). -/
theorem exec_snapshot {s : State} {w : WriteTx} (ht : s.takesCommand w 7) (hd : s.control.device.isSome = true) :
    exec (.snapshot w) s = .next ((s.commanded w).requestSnapshot.raise (commandDone w 0xFF 7)) := by
  obtain ⟨hw, hl, hm, hu, ho⟩ := ht
  have seven : (commandOf 0x300 w).opcode.toNat = 7 := by rw [ho]; rfl
  have check : (s.commanded w).commonCheck (commandOf 0x300 w) = none :=
    commonCheck_passes hu (by omega) (by omega) (fun h => by omega) fun _ => hd
  have request : (s.commanded w).execute (commandOf 0x300 w) = .ok (s.commanded w).requestSnapshot := by
    simp only [State.execute, seven]
  have done : (commandOf 0x300 w).record .commandDone 0 = commandDone w 0xFF 7 := by
    rw [CommandWord.record, CommandWord.ringField, if_neg (by omega), ho]
    rfl
  rw [exec_taken (.snapshot w) w s _ rfl hw hl hm check request, State.commandTaken, if_neg (by rw [ho]; decide), done,
    settleReleases_none]
  rw [holds_raise, requestSnapshot_frame]
  rfl

/-- The expiry requests a snapshot and restarts the timer (R174). -/
theorem exec_periodTimerExpiry {s : State} {d : DeviceProfile} (due : s.periodDue = true) (hd : s.nothingDue)
    (device : s.control.device = some d) (period : d.snapshotPeriod ≠ 0) :
    exec .periodTimerExpiry s = .next (s.requestSnapshot.modReport fun e =>
      { e with periodTimer := some (s.timeBase.now + BitVec.ofNat 32 (d.snapshotPeriod * 1000)) }) := by
  have effect : s.expirePeriodIfDue = s.requestSnapshot.modReport fun e =>
      { e with periodTimer := some (s.timeBase.now + BitVec.ofNat 32 (d.snapshotPeriod * 1000)) } := by
    rw [State.expirePeriodIfDue, if_pos due, State.expirePeriod, device]
    dsimp only
    rw [periodExpiry, if_neg period]
  refine congrArg _ ((event_of_admission hd ?_ ?_).trans effect)
  · rw [effect, requestSnapshot_frame]
    rfl
  · rw [effect, requestSnapshot_frame]
    rfl

/-- Settles O41: both rows make one request, which copies or waits. -/
theorem snapshotsCopyOrWait : Obligations.SnapshotsCopyOrWait := by
  intro s zeroed started
  refine ⟨fun w ht hd => ⟨fun idle => ?_, fun busy => ?_⟩,
    fun d due hd device period => ⟨fun idle => ?_, fun busy => ?_⟩⟩
  · rw [exec_snapshot ht hd, requestSnapshot_idle (s := s.commanded w) idle]
    rfl
  · rw [exec_snapshot ht hd, requestSnapshot_writing (s := s.commanded w) busy]
    rfl
  · rw [exec_periodTimerExpiry due hd device period, requestSnapshot_idle idle]
    rfl
  · rw [exec_periodTimerExpiry due hd device period, requestSnapshot_writing busy]
    rfl

end Sys2Proof.Machine
end

-- ==== Reports and counters ====
section
/-! PROOFS. The Report Engine's own rules: records offered (R164), the completion of its writes (R163, R165, R166, R175), the
tail word (R167) and the level of INT_N (R168); and the increment of a counter (R172). -/

namespace Sys2Proof.Machine

open Sys2Proof Sys2Proof.Config

/-! ## Records offered -/

/-- One more record dropped, the count saturating (R164). -/
theorem saturatingAdd_one (a : Word) : saturatingAdd a 1 = if a = 0xFFFFFFFF then 0xFFFFFFFF else a + 1 := by
  have room : a.toNat + (1 : Word).toNat < 2 ^ 32 ↔ a ≠ 0xFFFFFFFF := by bv_omega
  rw [saturatingAdd]
  by_cases full : a = 0xFFFFFFFF
  · rw [if_neg (fun h => room.mp h full), if_pos full]
  · rw [if_pos (room.mpr full), if_neg full]

/-- A record offered changes nothing beside the Report Engine. -/
theorem offer_eq (s : State) (c : Record) : s.offer c = { s with report := (s.offer c).report } := by
  unfold State.offer
  split
  · rfl
  · split <;> rfl

/-- An offer has to do with the engine's buffer and its dropped count alone (R164). -/
theorem report_offer_frame (s : State) (c : Record) : (s.offer c).report =
    { s.report with buffer := (s.offer c).report.buffer, dropped := (s.offer c).report.dropped } := by
  unfold State.offer
  split
  · rfl
  · split
    · rw [report_modReport]
      split <;> rfl
    · rfl

theorem offer_noProfile {s : State} (h : s.control.device = none) (c : Record) : s.offer c = s := by
  rw [State.offer, h]

/-- With a profile in force the mask's bit comes first, then the buffer's room (R164). -/
theorem offer_profile {s : State} {d : DeviceProfile} (h : s.control.device = some d) (c : Record) : s.offer c =
    if d.eventMask.getLsbD c.kind.code = false then s
    else if s.report.buffer.length < 8 then { s with report := { s.report with buffer := s.report.buffer ++ [c] } }
    else { s with report := { s.report with
      dropped := if s.report.dropped = 0xFFFFFFFF then 0xFFFFFFFF else s.report.dropped + 1 } } := by
  rw [State.offer, h]
  dsimp only
  cases d.eventMask.getLsbD c.kind.code with
  | false => rfl
  | true =>
    rw [← saturatingAdd_one, if_pos rfl, if_neg Bool.noConfusion, State.modReport, recordBufferDepth]
    by_cases room : s.report.buffer.length < 8
    · rw [if_pos room, if_pos room]
    · rw [if_neg room, if_neg room]

/-! ## Counters -/

theorem CounterSet.get_put_same (k : CounterSet) (c : Counter) (v : Word) : (k.put c v).get c = v :=
  Vector.getElem_set_self _

theorem CounterSet.increment_saturated {k : CounterSet} {c : Counter} (h : k.get c = 0xFFFFFFFF) :
    k.increment c = { k with overflow := k.overflow ||| (1#16 <<< c.index.val) } := if_pos h

theorem CounterSet.increment_rises {k : CounterSet} {c : Counter} (h : k.get c ≠ 0xFFFFFFFF) :
    k.increment c = k.put c (k.get c + 1) := if_neg h

/-- Settles O59: an offer by its profile, an increment by whether the counter is saturated, the tables by their rows. -/
theorem recordOffersAndCounters : Obligations.RecordOffersAndCounters := by
  refine ⟨fun s c => ⟨fun absent => offer_noProfile absent c, fun d device => offer_profile device c⟩,
    fun k c d => ⟨fun saturated => ?_, fun below => ?_⟩, rfl, rfl, rfl, rfl⟩
  · rw [CounterSet.increment_saturated saturated]
    exact ⟨rfl, rfl⟩
  · refine ⟨?_, ?_, fun other => k.get_increment_other other⟩
    · rw [CounterSet.increment_rises below, CounterSet.get_put_same]
    · rw [CounterSet.increment_rises below]
      rfl

/-! ## INT_N -/

/-- Settles O60: the first condition can hold only with a profile in force. -/
theorem interruptLevel : Obligations.InterruptLevel := by
  intro s
  rw [State.intAsserted, Bool.or_eq_true]
  refine or_congr_left ?_
  cases s.control.device with
  | none => simp
  | some d => simp only [Bool.and_eq_true, bne_iff_ne, Option.some.injEq, exists_eq_left']

/-! ## The tail word -/

/-- A valid value lies in the ring, and no further from the tail than the head (R167). -/
theorem tailValid_iff (entries head tail t : Nat) : tailValid entries head tail t = true ↔
    t < entries ∧ (t + entries - tail) % entries ≤ (head + entries - tail) % entries := by
  rw [tailValid, unreadSpan, unreadSpan, Bool.and_eq_true, decide_eq_true_eq, decide_eq_true_eq]

section

variable {s : State} {w : WriteTx} {offset : Nat}

/-- A write of the tail word that passes the access checks goes on to memory and is handed to the engine (R146, R167). -/
theorem writeControl_tailWord (tail : touches offset w.length 0x318 0x320 = true)
    (cursors : touchesCursors offset w.length = false) (access : s.accessRefused offset w = false)
    (command : covers offset w.length 0x300 = false) :
    s.writeControl offset w = (s.pushPass (writeEntry w none)).writeTailWord offset w := by
  rw [State.writeControl, cursors, access, State.handOn, command, tail]
  rfl

/-- The tail word is no matter of the Hold Queue. -/
theorem holds_writeTailWord (s : State) (offset : Nat) (w : WriteTx) : (s.writeTailWord offset w).holds = s.holds := by
  unfold State.writeTailWord
  dsimp only
  repeat' split
  all_goals simp

theorem writeTailWord_noProfile (h : s.control.device = none) : s.writeTailWord offset w = s := by
  rw [State.writeTailWord, h]

/-- What the engine makes of a tail write under a profile: by the bytes covered, then by the value (R167). -/
theorem writeTailWord_profile {d : DeviceProfile} (h : s.control.device = some d) : s.writeTailWord offset w =
    (let low := covers offset w.length 0x318
     let high := covers offset w.length 0x319
     let v : Seq := writtenByte w offset 0x319 ++ writtenByte w offset 0x318
     if low = false ∧ high = false then s
     else if low ≠ high then s.raise (s.tailInvalidRecord w.initiator 0)
     else if v.toNat < d.reportEntries ∧
         (v.toNat + d.reportEntries - s.report.tail) % d.reportEntries ≤
           (s.report.head + d.reportEntries - s.report.tail) % d.reportEntries then
       { s with report := { s.report with tail := v.toNat } }
     else s.raise (s.tailInvalidRecord w.initiator v)) := by
  rw [State.writeTailWord, h]
  dsimp only
  simp only [← tailValid_iff]
  cases covers offset w.length 0x318 <;> cases covers offset w.length 0x319 <;> rfl

end

/-- Settles O37: the write is routed to the engine, which judges it by R167. -/
theorem tailWordRule : Obligations.TailWordRule := by
  intro s w offset form area tail cursors access command wen
  have row : exec (.tailWordWrite w) s = .next ((s.pushPass (writeEntry w none)).writeTailWord offset w) := by
    rw [exec_write_routed _ w s rfl ⟨form, .inr (area ▸ wen)⟩, area, State.routeWrite,
      writeControl_tailWord tail cursors access command, settleReleases_none s _ (holds_writeTailWord (s.pushPass _) offset w)]
  rw [row]
  cases device : s.control.device with
  | none => exact congrArg _ (writeTailWord_noProfile device)
  | some d => exact congrArg _ (writeTailWord_profile device)

/-! ## Completions of the engine's writes -/

/-- The end of a write-out bears on the report and the counters alone (R174, R175). -/
theorem endWriteOut_frame (s : State) (faults : Nat) : s.endWriteOut faults =
    { s with report := (s.endWriteOut faults).report, counters := (s.endWriteOut faults).counters } := by
  rw [State.endWriteOut, offer_eq]
  split <;> rfl

/-- The completion of an engine's write bears on the report and the counters alone (R165, R175). -/
theorem completeReport_frame (s : State) (x : ReportWrite) (fault : Bool) : s.completeReport x fault =
    { s with report := (s.completeReport x fault).report, counters := (s.completeReport x fault).counters } := by
  cases x with
  | record => cases fault <;> rfl
  | dropped c => cases fault <;> rfl
  | headWord => cases fault <;> rfl
  | snapshotPart n =>
    rw [State.completeReport, State.completePart]
    split
    · rfl
    · dsimp only
      split
      · exact endWriteOut_frame s _
      · rfl

theorem advanceHead_eq {s : State} {d : DeviceProfile} (h : s.control.device = some d) : s.advanceHead =
    { s with report := { s.report with head := (s.report.head + 1) % d.reportEntries, headOwed := true } } := by
  rw [State.advanceHead, h]
  rfl

/-- A part that is not the last has its fault counted (R175). -/
theorem completePart_more {s : State} {part n k : Nat} (writing : s.report.writeOut = .writing n k) (more : part ≠ 9)
    (fault : Bool) : s.completePart part fault =
      { s with report := { s.report with writeOut := .writing n (if fault then k + 1 else k) } } := by
  rw [State.completePart, writing]
  exact if_neg more

/-- The last part ends the write-out (R175). -/
theorem completePart_last {s : State} {n k : Nat} (writing : s.report.writeOut = .writing n k) (fault : Bool) :
    s.completePart 9 fault = s.endWriteOut (if fault then k + 1 else k) := by
  rw [State.completePart, writing]
  exact if_pos rfl

/-- The state in which a write-out has ended and SNAPSHOT_DONE is offered (R175). -/
def State.writeOutDone (s : State) (faults : Nat) : State :=
  State.offer
    { kind := .snapshotDone, initiator := 0xFF, detail := BitVec.ofNat 8 faults, time := s.report.copy.time
      extra := s.report.copy.period }
    { s with report := { s.report with writeOut := .idle } }

theorem endWriteOut_alone {s : State} (h : s.report.snapshotPending = false) (faults : Nat) :
    s.endWriteOut faults = s.writeOutDone faults := by
  rw [State.endWriteOut, h]
  rfl

/-- A pending snapshot copies the counters as they stand after SNAPSHOT_DONE, which leaves them (R174, R175). -/
theorem endWriteOut_pending {s : State} (h : s.report.snapshotPending = true) (faults : Nat) : s.endWriteOut faults =
    { s.writeOutDone faults with
      report := { (s.writeOutDone faults).report with
        snapshotPending := false, copy := ⟨s.counters, s.report.period + 1, s.timeBase.now⟩
        period := s.report.period + 1, writeOut := .writing 1 0, lastTurn := .record }
      counters := s.rings.map fun g : RingRecord => CounterSet.zero.put .peakOccupancy (BitVec.ofNat 32 g.occupancy) } := by
  have counters : (s.writeOutDone faults).counters = s.counters := counters_offer _ _
  have timeBase : (s.writeOutDone faults).timeBase = s.timeBase := timeBase_offer _ _
  have rings : (s.writeOutDone faults).rings = s.rings := rings_offer _ _
  have period : (s.writeOutDone faults).report.period = s.report.period := by
    rw [State.writeOutDone, report_offer_frame]
  rw [← counters, ← timeBase, ← rings, ← period, State.endWriteOut, h]
  rfl

/-- The state in which these requests are left in flight (R128). -/
def State.withInFlight (s : State) (rest : List Request) : State := { s with port := { s.port with inFlight := rest } }

/-- Memory completes the oldest request, a Report Engine write: it leaves the port and the engine is told; nothing is let in
(R122, R165). -/
theorem exec_reportWriteCompletion {s : State} {q : Request} {rest : List Request} {x : ReportWrite}
    (hq : s.port.inFlight = q :: rest) (ho : q.origin = .report x) (hd : s.nothingDue) (fault : Bool) :
    exec (.reportWriteCompletion fault) s =
      .next ((s.withInFlight rest).completeReport x fault) := by
  have completed : s.completeReportWrite fault = (s.withInFlight rest).completeReport x fault := by
    rw [State.completeReportWrite, hq, List.head?_cons, State.withInFlight, ← retire_of_inFlight hq]
    dsimp only
    rw [ho]
  refine congrArg _ ((event_of_admission hd ?_ ?_).trans completed)
  · rw [completed, completeReport_frame]
    rfl
  · rw [completed, completeReport_frame]
    rfl

/-- Settles O50, by the kind of the write and whether it faulted. -/
theorem reportCompletionMovesHead : Obligations.ReportCompletionMovesHead := by
  intro s q rest d hq device hd
  have advance := advanceHead_eq (s := s.withInFlight rest) device
  refine ⟨fun ho => ⟨?_, ?_⟩, fun ho => ⟨?_, ?_⟩, fun c ho => ⟨?_, ?_⟩, fun part n k fault ho writing => ?_⟩
  · exact (exec_reportWriteCompletion hq ho hd false).trans (congrArg _ advance)
  · exact exec_reportWriteCompletion hq ho hd true
  · exact exec_reportWriteCompletion hq ho hd false
  · exact exec_reportWriteCompletion hq ho hd true
  · exact (exec_reportWriteCompletion hq ho hd false).trans (congrArg _ advance)
  · exact exec_reportWriteCompletion hq ho hd true
  · intro faults done
    have row := exec_reportWriteCompletion hq ho hd fault
    have ended (last : part = 9) : exec (.reportWriteCompletion fault) s =
        .next ((s.withInFlight rest).endWriteOut faults) := by
      subst last
      exact row.trans (congrArg _ (completePart_last (s := s.withInFlight rest) writing fault))
    refine ⟨fun more => ?_, fun last alone => ?_, fun last pending => ?_⟩
    · exact row.trans (congrArg _ (completePart_more (s := s.withInFlight rest) writing more fault))
    · exact (ended last).trans (congrArg _ (endWriteOut_alone (s := s.withInFlight rest) alone faults))
    · exact (ended last).trans (congrArg _ (endWriteOut_pending (s := s.withInFlight rest) pending faults))

end Sys2Proof.Machine
end

-- ==== The front of the queue ====
section
/-! PROOFS. A step and the queue of waiting commands: first in, first out. -/

namespace Sys2Proof.Machine

open Sys2Proof Sys2Proof.Config

/-- Of two queues put in one after the other, the later stays. -/
@[simp] theorem withPending_withPending (s : State) (q r : List Instr) :
    (s.withPending q).withPending r = s.withPending r := rfl

/-- Settles O1: the step takes the front command off the queue, and the queue's rest replaces the queue it stood in. -/
theorem stepRunsTheFrontCommand : Obligations.StepRunsTheFrontCommand := by
  intro c rest s
  have front : (s.withPending (c :: rest)).pending = c :: rest := pending_withPending s (c :: rest)
  calc step (s.withPending (c :: rest))
      = exec c ((s.withPending (c :: rest)).withPending rest) := step_front front
    _ = exec c (s.withPending rest) := by rw [withPending_withPending]

end Sys2Proof.Machine
end
